-- ==== Sys2Proof/Word.lean ====
section
/-! DEFINITION. The plain number types of the part: a byte of a CAN frame, and the indexes by which the spec
numbers stations, lines, bays, recipes, transmit slots and standing frames (00_scope Table 0–1, R21, R70, R142, R151).
Everything else the part counts is an integer (00_scope, "All quantities in the part are integers"): `Nat`, or `Int`
for a temperature and the water excess. -/

namespace Sys2Proof

/-- One data byte of a CAN frame (R143). -/
abbrev Byte := BitVec 8

/-- A station index 0..6 (Table 0–1): 0..3 the mixers, 4 the hall, 5 loadout, 6 the supervisor. -/
abbrev Station := Fin 7

/-- A mixer line 0..3 (R53). -/
abbrev Line := Fin 4

/-- A lane of the curing hall, 0..15 (R70). -/
abbrev Bay := Fin 16

/-- A recipe number 0..7 (R21). -/
abbrev RecipeNo := Fin 8

/-- A transmit slot 0..31 (R151). -/
abbrev SlotNo := Fin 32

/-- A standing-frame number 0..17 (R142). -/
abbrev StandingNo := Fin 18

/-- The station index of the hall controller (Table 0–1). -/
abbrev hallStation : Station := 4

/-- The station index of the loadout terminal (Table 0–1). -/
abbrev loadoutStation : Station := 5

/-- The station index of the quality supervisor (Table 0–1). -/
abbrev supervisorStation : Station := 6

/-- The mixer station of a line: its index is the line's number (Table 0–1). -/
abbrev mixerStation (n : Line) : Station := ⟨n.val, by omega⟩

end Sys2Proof
end

