-- ==== Sys2Proof/Config.lean ====
section
/-! DEFINITION. The capacities, limits and cold-start parameter values that the spec fixes once for the part.
The spec leaves no value of the part's to the implementation, so there is no free constant here
(the CAN error counts, which R154 leaves to the bus's own fault confinement, come in as operands: log entry 6). -/

namespace Sys2Proof.Config

/-- Lot records in the lot table (R1). -/
abbrev lotRecords : Nat := 64

/-- The greatest serial; 1 follows it (R4, R6). -/
abbrev maxSerial : Nat := 16777215

/-- Saturation limit of a lot's maturity, in mc (R16). -/
abbrev maxMaturity : Nat := 16777215

/-- Saturation limit of age, hot minutes and maximum age (R15, R16). -/
abbrev maxMinutes : Nat := 65535

/-- Saturation limit of the outage count, the extension count and the reading age (R16, R70). -/
abbrev maxCount : Nat := 255

/-- Saturation limit of the plant minute (R91). -/
abbrev maxPlantMinute : Nat := 4294967295

/-- Open claims at most (R111). -/
abbrev maxClaims : Nat := 4

/-- Release records held at most (R121). -/
abbrev logRecords : Nat := 32

/-- Data bytes of the longest CAN frame (Table 9–2). -/
abbrev frameBytes : Nat := 8

/-- The margin a CLNX answer can carry at most (R145). -/
abbrev maxMargin : Nat := 1048575

/-- A bus is left when the transmit error count passes this value (R154). -/
abbrev busOffLimit : Nat := 255

/-- The stale limit L after a cold start, in minutes (R70). -/
abbrev coldStaleLimit : Nat := 10

/-- A lane's capacity after a cold start (R70). -/
abbrev coldCapacity : Nat := 4

/-- The claim timeout after a cold start, in seconds (R120). -/
abbrev coldClaimTimeout : Nat := 900

end Sys2Proof.Config
end

