-- ==== Sys2Proof/Syntax.lean ====
section
/-! DEFINITION. The commands and events that reach the part: one constructor of `Instr` for each row of
spec/opcode_table.json, in the table's order.

A station's command is named with the station that sends it and the frame's data bytes after the command code
(for a SPAR parameter: after the code and the parameter identifier), laid out as Table 9–4 of R144 says: the bytes, and not
decoded numbers, because a frame may be too short for its command or longer than it (R144), and the part answers both. -/

namespace Sys2Proof

/-- A frame as the part receives it from the bus (R142). -/
structure RxFrame where
  /-- extended (29-bit) format -/
  extended : Bool
  /-- a remote frame, and not a data frame -/
  remote : Bool
  /-- received with a bus error -/
  busError : Bool
  /-- the identifier -/
  ident : Nat
  /-- the data bytes -/
  data : List Byte
deriving DecidableEq, Repr

/-- The levels of the four strap inputs, `true` for high (R141). -/
structure Straps where
  sa1 : Bool
  sa0 : Bool
  sb1 : Bool
  sb0 : Bool
deriving DecidableEq, Repr

/-- How far the two error counts fall at a completed transmission (R154). -/
structure ErrorFall where
  transmit : Nat
  receive : Nat
deriving DecidableEq, Repr

/-- The part's commands and events. -/
inductive Instr where
  /-- QLOT, 0x60 (R19): serial (3), page (1). -/
  | qlot (st : Station) (args : List Byte)
  /-- RCPW, 0x48 (R23): recipe (1), field identifier (1), value (2). -/
  | rcpw (st : Station) (args : List Byte)
  /-- RCPE, 0x49 (R25): recipe (1). -/
  | rcpe (st : Station) (args : List Byte)
  /-- RCPD, 0x4A (R28): recipe (1). -/
  | rcpd (st : Station) (args : List Byte)
  /-- RCPR, 0x4B (R29): recipe (1), field identifier (1). -/
  | rcpr (st : Station) (args : List Byte)
  /-- DOSQ, 0x10 (R35): wet ash (2), moisture (2), chloride class (1), source (1). -/
  | dosq (st : Station) (args : List Byte)
  /-- DSCH, 0x11 (R58): bay (1). -/
  | dsch (st : Station) (args : List Byte)
  /-- ABDN, 0x12 (R61): no argument. -/
  | abdn (st : Station) (args : List Byte)
  /-- QLIN, 0x13 (R64): no argument. -/
  | qlin (st : Station) (args : List Byte)
  /-- TMPR, 0x20 (R79): bay (1), temperature (2), and optionally a second bay and temperature. -/
  | tmpr (st : Station) (args : List Byte)
  /-- LOCK, 0x45 (R76): bay (1). -/
  | lock (st : Station) (args : List Byte)
  /-- ULCK, 0x46 (R76): bay (1). -/
  | ulck (st : Station) (args : List Byte)
  /-- STIM, 0x4C (R93): plant minute (4). -/
  | stim (st : Station) (args : List Byte)
  /-- CLNX, 0x30 (R112): truck (2). -/
  | clnx (st : Station) (args : List Byte)
  /-- CNFM, 0x31 (R115): serial (3), truck (2), net mass (2). -/
  | cnfm (st : Station) (args : List Byte)
  /-- RTRN, 0x32 (R117): serial (3). -/
  | rtrn (st : Station) (args : List Byte)
  /-- QREL, 0x61 (R123): record index (1), page (1), optionally part (1). -/
  | qrel (st : Station) (args : List Byte)
  /-- HOLD, 0x40 (R128): serial (3). -/
  | hold (st : Station) (args : List Byte)
  /-- UNHD, 0x41 (R130): serial (3). -/
  | unhd (st : Station) (args : List Byte)
  /-- RJCT, 0x42 (R132, R133): serial (3). -/
  | rjct (st : Station) (args : List Byte)
  /-- CLRB, 0x43 (R134): bay (1). -/
  | clrb (st : Station) (args : List Byte)
  /-- EXTD, 0x44 (R135): serial (3), minutes (2). -/
  | extd (st : Station) (args : List Byte)
  /-- SPAR, 0x4D, of parameter 0 (R49): index (1), value (2). -/
  | cementMax (st : Station) (args : List Byte)
  /-- SPAR, 0x4D, of parameter 1 (R49): index (1), value (2). -/
  | waterMax (st : Station) (args : List Byte)
  /-- SPAR, 0x4D, of parameter 2 (R49): index (1), value (2). -/
  | additiveMax (st : Station) (args : List Byte)
  /-- SPAR, 0x4D, of parameter 3 (R78): index (1), value (2). -/
  | staleLimit (st : Station) (args : List Byte)
  /-- SPAR, 0x4D, of parameter 4 (R77): index (1), value (2). -/
  | bayCapacity (st : Station) (args : List Byte)
  /-- SPAR, 0x4D, of parameter 5 (R120): index (1), value (2). -/
  | claimTimeout (st : Station) (args : List Byte)
  /-- ATRD, 0x70 (R160): no argument. -/
  | atrd (st : Station) (args : List Byte)
  /-- ATCL, 0x71 (R161): set of kinds (2). -/
  | atcl (st : Station) (args : List Byte)
  /-- ATMK, 0x72 (R162): set of kinds (2). -/
  | atmk (st : Station) (args : List Byte)
  /-- RSTW, 0x4E (R168): no argument. -/
  | rstw (st : Station) (args : List Byte)
  /-- RSTC, 0x4F (R168): no argument. -/
  | rstc (st : Station) (args : List Byte)
  /-- A command frame that is empty or whose first byte is no command code (R148). -/
  | unknownCommand (st : Station) (data : List Byte)
  /-- A command frame, whatever its bytes, arrives from a station (R149). -/
  | commandFrameArrival (st : Station) (data : List Byte)
  /-- A remote request for standing frame k (R153). -/
  | remoteRequest (k : StandingNo)
  /-- A frame on the bus that is neither of the two (R142). -/
  | ignoredFrame (f : RxFrame)
  /-- The arbiter starts an attempt (R152). -/
  | attemptStart
  /-- The attempt completes (R152). The first operand is how far the CAN fault confinement lowers the two error counts; the straps
  stand as named, and a start that this completion begins samples them (R141, R168). -/
  | attemptCompletion (fall : ErrorFall) (straps : Straps)
  /-- The attempt loses bus arbitration (R152). -/
  | arbitrationLoss
  /-- A bus error (R152, R154). The operands are how far the CAN fault confinement raises the two error counts. -/
  | busError (tecRise recRise : Nat)
  /-- The 128th occurrence of 11 recessive bits in bus-off (R154). -/
  | busOffRecovery
  /-- The divider completes 32,768 cycles (R88). -/
  | secondEvent
  /-- A second event takes a line's last remaining second (R57). -/
  | pourWindowExpiry (n : Line)
  /-- A second event takes the last remaining second of the claims that have one left (R114). -/
  | claimExpiry
  /-- The interval event of a sixtieth second event (R89). -/
  | intervalEvent
  /-- The raw level of PH becomes the level named, `true` for asserted (R66). -/
  | phChange (asserted : Bool)
  /-- The 20 ms of an asserted PH end (R67). -/
  | haltAssertionRegistered
  /-- The 20 ms of a released PH end (R68). -/
  | haltReleaseRegistered
  /-- Main power rises to its operating level, the straps standing as named (R164, R141). -/
  | powerOn (straps : Straps)
  /-- Main power is lost (R165). -/
  | mainPowerLoss
  /-- VBAK falls below the retention level (R165). -/
  | vbakBelowRetention
  /-- RSTIN has held asserted for 1 ms (R164). -/
  | resetAssertionRegistered
  /-- RSTIN is released, the straps standing as named (R164, R141). -/
  | resetRelease (straps : Straps)
  /-- The self-test of a start completes, passed or failed (R167). -/
  | selfTest (passed : Bool)
deriving DecidableEq, Repr

end Sys2Proof
end

