-- ==== Sys2Proof/Decode.lean ====
section
/-! DEFINITION. The word decoder that the host asks for. No row of spec/opcode_table.json gives bits
(every row's "fields" is empty and it has no "fixed"), so no word spells a command. -/

namespace Sys2Proof

/-- The command that a word spells by the table's bits: none, as the table gives no row any bits. -/
def decodeTableWord (_nbits _w : Nat) : Option Instr := none

end Sys2Proof
end

