-- ==== Sys2Proof/Machine/State.lean ====
section
/-! DEFINITION. The state of the part, as plain data: what each of the ten blocks holds (00_scope, block overview), the
levels of its lines, the contents of its transmit slots, and the queue of commands and events still to come.

Types first, then `State`, then `State.reset`. The values are integers in the units of Table 0–3. -/

namespace Sys2Proof.Machine

open Sys2Proof

/-! ## Lots (chapter 1) -/

/-- The live states of a lot (Table 1–2a). FREE is the state of a record that holds no lot: such a record is not listed. -/
inductive LotState where
  | dosed
  | void
  | curing
  | overdue
  | cured
  | claimed
  | rejected
deriving DecidableEq, Repr

/-- The reason of a hold (R13). -/
inductive HoldReason where
  | supervisor
  | hot
deriving DecidableEq, Repr

/-- Where a lot stands from its discharge on, and the plant minute of the discharge (R8). -/
structure Place where
  bay : Bay
  position : Nat
  pourMinute : Nat
deriving DecidableEq, Repr

/-- A live lot record (Table 1–1). Bay, position and pour minute are absent together (Table 1–2), so they are one field. -/
structure Lot where
  serial : Nat
  state : LotState
  line : Line
  source : Nat
  chlorideClass : Nat
  recipe : RecipeNo
  effectiveTarget : Nat
  datum : Int
  cap : Int
  minAge : Nat
  maxAge : Nat
  hotLimit : Nat
  wetAsh : Nat
  dryAsh : Nat
  cement : Nat
  water : Nat
  additive : Nat
  wet : Bool
  extended : Bool
  interrupted : Bool
  hotHeld : Bool
  hold : Option HoldReason
  place : Option Place
  age : Nat
  maturity : Nat
  hotMinutes : Nat
  outages : Nat
  extensions : Nat
deriving DecidableEq, Repr

/-! ## Recipes and dosing limits (chapters 2 and 3) -/

/-- A recipe record (Table 2–1). SOURCES is a set of boiler lines, line n present when bit n is set (R24). -/
structure Recipe where
  enabled : Bool
  sources : BitVec 4
  classLo : Nat
  classHi : Nat
  moistLo : Nat
  moistHi : Nat
  cementRatio : Nat
  waterRatio : Nat
  additiveRatio : Nat
  wetAllowance : Nat
  wetPenalty : Nat
  target : Nat
  datum : Int
  cap : Nat
  minAge : Nat
  maxAge : Nat
  hotLimit : Nat
  pourWindow : Nat
  pourWarning : Nat
deriving DecidableEq, Repr

/-- The cold-start values of a recipe record: disabled, with the defaults of Table 2–1 (R22). -/
def Recipe.coldStart : Recipe where
  enabled := false
  sources := 0b1111
  classLo := 0
  classHi := 7
  moistLo := 0
  moistHi := 600
  cementRatio := 300
  waterRatio := 350
  additiveRatio := 0
  wetAllowance := 100
  wetPenalty := 100
  target := 1000
  datum := -100
  cap := 600
  minAge := 4320
  maxAge := 20160
  hotLimit := 240
  pourWindow := 2700
  pourWarning := 600

/-- A mixer line's three dosing limits, in kg (R47). -/
structure LineLimits where
  cementMax : Nat
  waterMax : Nat
  additiveMax : Nat
deriving DecidableEq, Repr

/-- The cold-start limits (Table 3–12, R50). -/
def LineLimits.coldStart : LineLimits where
  cementMax := 1500
  waterMax := 1200
  additiveMax := 100

/-! ## Mixer lines (chapter 4) -/

/-- A mixer-line record (R53). The timer runs, and the remaining seconds and the warning point are present, in DOSED alone. -/
inductive LineRecord where
  | idle
  | dosed (serial remaining warning : Nat)
  | void (serial : Nat)
deriving DecidableEq, Repr

/-- The line state that QLIN reports (Table 4–2). -/
inductive LineState where
  | idle
  | dosed
  | void
deriving DecidableEq, Repr

/-! ## Lanes (chapter 5) -/

/-- A lane's last valid temperature, in tenths of a degree, and its age in interval events (Table 5–2). -/
structure Reading where
  temperature : Int
  age : Nat
deriving DecidableEq, Repr

/-- A lane record (Table 5–2): the lots are serials, front first. -/
structure Lane where
  capacity : Nat
  locked : Bool
  lots : List Nat
  reading : Option Reading
  stale : Bool
deriving DecidableEq, Repr

/-- A lane after a cold start (Table 5–2, R87). -/
def Lane.coldStart : Lane where
  capacity := Config.coldCapacity
  locked := false
  lots := []
  reading := none
  stale := false

/-! ## Claims and release records (chapter 7) -/

/-- A claim record (R111). -/
structure Claim where
  serial : Nat
  truck : Nat
  remaining : Nat
deriving DecidableEq, Repr

/-- A release record (Table 7–6). -/
structure ReleaseRecord where
  serial : Nat
  recipe : RecipeNo
  line : Line
  source : Nat
  bay : Bay
  pourMinute : Nat
  dispatchMinute : Nat
  finalMaturity : Nat
  effectiveTarget : Nat
  finalAge : Nat
  hotMinutes : Nat
  outages : Nat
  extensions : Nat
  wet : Bool
  extended : Bool
  interrupted : Bool
  hotHeld : Bool
  dryAsh : Nat
  cement : Nat
  water : Nat
  additive : Nat
  wetAsh : Nat
  truck : Nat
  netMass : Nat
deriving DecidableEq, Repr

/-! ## Attention (chapter 10) -/

/-- The attention kinds, in the order of their numbers 0..12 (Table 10–1). -/
inductive AttnKind where
  | restarted
  | haltActive
  | pourLate
  | doseVoid
  | queueReady
  | claimExpired
  | claimRevoked
  | bayStale
  | probeFault
  | overduePresent
  | hotHold
  | rejectedAtFront
  | timeUnset
deriving DecidableEq, Repr

/-- A set of attention kinds: kind k is a member when bit k is set (R143). -/
abbrev KindSet := BitVec 13

/-! ## Start-up (chapter 11) -/

/-- The start cause (R164). -/
inductive StartCause where
  | cold
  | warm
  | supervisorWarm
  | supervisorCold
deriving DecidableEq, Repr

/-- Where the part stands between power and service (R164, R166, R167): without main power; held stopped by a registered
RSTIN; in a start, its self-test not completed; in FAULT; or in service, its start completed. -/
inductive Phase where
  | unpowered
  | heldReset
  | starting
  | fault
  | inService
deriving DecidableEq, Repr

/-! ## The plant link (chapter 9) -/

/-- The link interface's connection to the bus (R154). -/
inductive LinkState where
  | onBus
  | offBus
  | busOff
deriving DecidableEq, Repr

/-- The state of a transmit slot (Table 9–13). -/
inductive SlotState where
  | empty
  | pending
  | sending
  | sendingMarked
deriving DecidableEq, Repr

/-- The status of an answer (Table 9–10). -/
inductive Status where
  | ok
  | okWet
  | notPermitted
  | unknownCommand
  | badArgument
  | plantHalted
  | lineBusy
  | lineBlocked
  | tableFull
  | noRecipe
  | tooWet
  | overCement
  | overWater
  | overAdditive
  | noDose
  | bayLocked
  | bayFull
  | unknownLot
  | wrongState
  | queueEmpty
  | claimLimit
  | truckBusy
  | notClaimed
  | notRejected
  | bayEmpty
  | recipeEnabled
  | badRecipe
  | bayNotEmpty
  | noRecord
deriving DecidableEq, Repr

/-- The four flags of a lot, as a flags byte carries them (R143). -/
structure LotFlags where
  wet : Bool
  extended : Bool
  interrupted : Bool
  hotHeld : Bool
deriving DecidableEq, Repr

/-- The results of an answer, as fields; Machine/Frames.lean lays them out in bytes 2..7 (Tables 9–5, 9–6, 9–7). -/
inductive Results where
  /-- no results: bytes 2..7 are 0 -/
  | none
  /-- DOSQ: the masses to feed, or as computed for an OVER refusal (R46) -/
  | dose (cement water additive : Nat)
  /-- DOSQ refused TOO_WET (R46) -/
  | tooWet (excess : Int) (allowance : Nat)
  /-- DSCH (R59) -/
  | discharged (serial : Nat) (bay : Bay) (position : Nat)
  /-- ABDN (R61) -/
  | abandoned (serial : Nat) (before : LotState)
  /-- QLIN (R64) -/
  | line (state : LineState) (permit halt : Bool) (serial : Option Nat) (remaining : Nat)
  /-- TMPR (R79): for each reading whether it was discarded -/
  | readings (count : Nat) (firstDiscarded : Bool) (secondDiscarded : Option Bool)
  /-- LOCK and ULCK (R76) -/
  | laneLock (bay : Bay) (locked : Bool) (occupancy : Nat)
  /-- RCPW (R23) -/
  | recipeWritten (recipe : RecipeNo) (field : Nat) (value : Int)
  /-- RCPE (R25) -/
  | recipeEnable (recipe : RecipeNo) (enabled : Bool) (condition : Nat)
  /-- RCPD (R28) -/
  | recipeDisabled (recipe : RecipeNo) (enabled : Bool)
  /-- RCPR (R29) -/
  | recipeRead (recipe : RecipeNo) (field : Nat) (value : Int) (enabled : Bool)
  /-- STIM (R93) -/
  | plantMinute (minute : Nat)
  /-- SPAR (R48) -/
  | parameter (parameter index value : Nat)
  /-- CLNX (R113); the frame carries the margin saturated (R145) -/
  | claimed (serial : Nat) (bay : Bay) (margin : Nat)
  /-- CNFM (R116) -/
  | confirmed (serial records : Nat)
  /-- RTRN (R117) -/
  | returned (serial queueLength : Nat)
  /-- HOLD (R128) -/
  | held (serial : Nat) (state : LotState) (reason : Option HoldReason)
  /-- UNHD (R130) -/
  | unheld (serial : Nat) (state : LotState) (queueLength : Nat)
  /-- RJCT (R132, R133) -/
  | rejected (serial : Nat) (before after : LotState)
  /-- CLRB (R134) -/
  | cleared (bay : Bay) (serial occupancy : Nat)
  /-- EXTD (R135) -/
  | extended (serial maxAge : Nat) (state : LotState)
  /-- ATRD (R160) -/
  | attention (pending mask : KindSet) (cause : StartCause)
  /-- ATCL and ATMK: the set after the taking (R161, R162) -/
  | kinds (set : KindSet)
  /-- QLOT page 0 (Table 1–7) -/
  | lotIdentity (state : LotState) (reason : Option HoldReason) (flags : LotFlags) (line : Line) (source : Nat)
      (recipe : RecipeNo) (chlorideClass : Nat) (bay : Option Bay) (position : Option Nat)
  /-- QLOT page 1 -/
  | lotMaturity (maturity target : Nat)
  /-- QLOT page 2 -/
  | lotAge (age minAge maxAge : Nat)
  /-- QLOT page 3 -/
  | lotHeat (hotMinutes hotLimit outages extensions : Nat)
  /-- QREL page 0, part 0 (Table 9–7) -/
  | releaseIdentity (serial truck : Nat) (line : Line) (source : Nat) (recipe : RecipeNo)
  /-- QREL page 0, part 1 -/
  | releasePlace (serial : Nat) (bay : Bay) (flags : LotFlags)
  /-- QREL page 1: the pour minute in part 0, the dispatch minute in part 1 -/
  | releaseMinute (minute : Nat)
  /-- QREL page 2, part 0 -/
  | releaseCure (finalMaturity target : Nat)
  /-- QREL page 2, part 1 -/
  | releaseHistory (finalAge hotMinutes outages extensions : Nat)
  /-- QREL page 3, part 0 -/
  | releaseDose (dryAsh cement water : Nat)
  /-- QREL page 3, part 1 -/
  | releaseLoad (additive netMass wetAsh : Nat)
deriving DecidableEq, Repr

/-- The contents of an answer slot, fixed when the command is taken (R150): the code echoed, the status, the LOST mark and the
results. -/
structure Answer where
  code : Byte
  status : Status
  lost : Bool
  results : Results
deriving DecidableEq, Repr

/-- A frame that the part sends (R145, R147). -/
inductive TxFrame where
  /-- the answer to a station -/
  | answer (st : Station) (a : Answer)
  /-- a notice to a station: its pending kinds not in the mask, all its pending kinds, the start cause (R159) -/
  | notice (st : Station) (unmasked pending : KindSet) (cause : StartCause)
  /-- STATUS -/
  | status (cause : StartCause) (timeValid halt : Bool) (live queueLength claims records : Nat)
  /-- QUEUE_HEAD (R125) -/
  | queueHead (serial : Option Nat) (bay : Option Bay) (queueLength : Nat)
  /-- LANE k (R86) -/
  | lane (bay : Bay) (locked stale : Bool) (capacity occupancy : Nat) (reading : Option Int) (front : Option Nat)
deriving DecidableEq, Repr

/-- An attempt under way: its slot and the frame composed at its start (R152, R153). -/
structure Attempt where
  slot : SlotNo
  frame : TxFrame
deriving DecidableEq, Repr

/-! ## The machine -/

/-- The part's state. Retained over a loss of main power (Table 11–2): the lot table, recipe table, line limits, line records,
the lanes' capacity, lock and lots, the stale limit, the plant minute, the dispatch unit and the retention-lost latch. -/
structure State where
  /-- lot table: the live records, in order of creation; the other records of the 64 are FREE (R1) -/
  lots : List Lot
  /-- lot table: the next-serial counter (R6) -/
  nextSerial : Nat
  /-- recipe table (R21) -/
  recipes : Vector Recipe 8
  /-- dose unit: the line dosing limits (R47) -/
  limits : Vector LineLimits 4
  /-- pour control: the mixer-line records (R53) -/
  lines : Vector LineRecord 4
  /-- pour control: the levels of the outputs FP0..FP3, `true` for asserted (R65) -/
  permits : Vector Bool 4
  /-- the raw level of the input PH, `true` for asserted (R66) -/
  phRaw : Bool
  /-- pour control: the registered halt level (R66) -/
  haltRegistered : Bool
  /-- pour control: the qualification timer is timing, and not idle (R66) -/
  qualifying : Bool
  /-- lane map: the lane records (R70) -/
  lanes : Vector Lane 16
  /-- lane map: the stale limit L, in minutes (R70) -/
  staleLimit : Nat
  /-- maturity engine: the sub-second divider (R88) -/
  divider : Nat
  /-- maturity engine: the second-in-minute count (R88) -/
  secondInMinute : Nat
  /-- THE MODEL'S OWN: the interval event of the coming sixtieth second event has been taken already (log entry 5) -/
  intervalTaken : Bool
  /-- maturity engine: the plant minute (R91) -/
  plantMinute : Nat
  /-- maturity engine: time is valid (R92) -/
  timeValid : Bool
  /-- dispatch unit: the dispatch queue, head first (R107) -/
  queue : List Nat
  /-- dispatch unit: the claims list, earliest first (R111) -/
  claims : List Claim
  /-- dispatch unit: the claim timeout, in seconds (R120) -/
  claimTimeout : Nat
  /-- dispatch unit: the release log, oldest first (R121) -/
  releaseLog : List ReleaseRecord
  /-- attention unit: the pending sets (R156) -/
  pendingKinds : Vector KindSet 7
  /-- attention unit: the masks (R156) -/
  masks : Vector KindSet 7
  /-- link interface: on-bus, off-bus or bus-off (R154) -/
  link : LinkState
  /-- link interface: the transmit error count (R154) -/
  transmitErrors : Nat
  /-- link interface: the receive error count (R154) -/
  receiveErrors : Nat
  /-- link interface: the inboxes, each empty or holding the bytes of a command frame (R149) -/
  inboxes : Vector (Option (List Byte)) 7
  /-- link interface: the LOST marks (R149) -/
  lostMarks : Vector Bool 7
  /-- link interface: the states of the transmit slots (R151) -/
  slots : Vector SlotState 32
  /-- link interface: the contents of the answer slots (R150) -/
  answers : Vector (Option Answer) 7
  /-- link interface: the transmitter, free or busy with an attempt (R152) -/
  transmitter : Option Attempt
  /-- the levels of the strap inputs SA1, SA0, SB1, SB0 (R141) -/
  strapPins : Straps
  /-- link interface: the straps as sampled at the last start (R141) -/
  straps : Straps
  /-- start-up controller: where the part stands (R164, R166, R167) -/
  phase : Phase
  /-- start-up controller: the start cause, of the last completed start (R164) -/
  startCause : StartCause
  /-- start-up controller: the cause decided at the beginning of the last start begun (R164) -/
  decidedCause : StartCause
  /-- start-up controller: the self-test result it holds: passed, failed or none (R167) -/
  selfTestPassed : Option Bool
  /-- start-up controller: the retention-lost latch (R165) -/
  retentionLost : Bool
  /-- the level of the output READY, `true` for asserted (R166) -/
  ready : Bool
  /-- THE MODEL'S OWN: the commands and events still to be taken, first in, first out (log entry 2) -/
  pending : List Instr
deriving DecidableEq, Repr

/-- The reasons a step can end in a fault: none. The spec gives the part no condition that stops a step: FAULT (R167) is a
state of the part, a value of `Phase`, and not an end of the machine. -/
inductive Fault where
deriving DecidableEq, Repr

/-- The reasons a step can be refused. -/
inductive Refusal where
  /-- Raised by `exec` for a command that has no meaning yet (safe: the model stops). No arm of `exec` raises it. -/
  | notModelled (mnemonic : String)
deriving DecidableEq, Repr

/-- The machine right after reset: in service at the completion of a cold start, PH released and the straps low (log entry 1).
RESTARTED is pending for every station, BAY_STALE for the hall and the supervisor and TIME_UNSET for the supervisor, so every
notice slot is pending (R163). -/
def State.reset : State where
  lots := []
  nextSerial := 1
  recipes := Vector.replicate 8 Recipe.coldStart
  limits := Vector.replicate 4 LineLimits.coldStart
  lines := Vector.replicate 4 .idle
  permits := Vector.replicate 4 false
  phRaw := false
  haltRegistered := false
  qualifying := false
  lanes := Vector.replicate 16 Lane.coldStart
  staleLimit := Config.coldStaleLimit
  divider := 0
  secondInMinute := 0
  intervalTaken := false
  plantMinute := 0
  timeValid := false
  queue := []
  claims := []
  claimTimeout := Config.coldClaimTimeout
  releaseLog := []
  pendingKinds := #v[0x0001, 0x0001, 0x0001, 0x0001, 0x0081, 0x0001, 0x1081]
  masks := Vector.replicate 7 0
  link := .onBus
  transmitErrors := 0
  receiveErrors := 0
  inboxes := Vector.replicate 7 none
  lostMarks := Vector.replicate 7 false
  slots := Vector.ofFn fun i => if 7 ≤ i.val ∧ i.val < 14 then .pending else .empty
  answers := Vector.replicate 7 none
  transmitter := none
  strapPins := ⟨false, false, false, false⟩
  straps := ⟨false, false, false, false⟩
  phase := .inService
  startCause := .cold
  decidedCause := .cold
  selfTestPassed := some true
  retentionLost := false
  ready := true
  pending := []

end Sys2Proof.Machine
end

