-- ==== Sys2Proof/Machine/Operands.lean ====
section
/-! DEFINITION. The arguments of command frames: how values stand in frame bytes (R143), and for each argument layout of
Table 9–4 (R144) a reader of the bytes after the command code. A reader answers `none` for a frame shorter than the
layout and ignores bytes beyond it (R144). -/

namespace Sys2Proof.Machine

open Sys2Proof

/-! ## Values in bytes (R143): multi-byte values are big-endian -/

/-- The unsigned value of bytes, the first the most significant. -/
def beNat (bytes : List Byte) : Nat := bytes.foldl (fun acc b => acc * 256 + b.toNat) 0

/-- The signed 16-bit value of two bytes. -/
def beInt (hi lo : Byte) : Int := (hi ++ lo : BitVec 16).toInt

/-- A one-byte field. -/
def u8 (n : Nat) : List Byte := [BitVec.ofNat 8 n]

/-- A two-byte field. -/
def u16 (n : Nat) : List Byte := [BitVec.ofNat 8 (n / 256), BitVec.ofNat 8 n]

/-- A three-byte field. -/
def u24 (n : Nat) : List Byte := [BitVec.ofNat 8 (n / 65536), BitVec.ofNat 8 (n / 256), BitVec.ofNat 8 n]

/-- A four-byte field. -/
def u32 (n : Nat) : List Byte :=
  [BitVec.ofNat 8 (n / 16777216), BitVec.ofNat 8 (n / 65536), BitVec.ofNat 8 (n / 256), BitVec.ofNat 8 n]

/-- A two-byte field in two's complement. -/
def s16 (i : Int) : List Byte := u16 (BitVec.ofInt 16 i).toNat

/-! ## Numbers that index the part's tables: `none` out of range -/

/-- A bay number, 0..15. -/
def bay? (n : Nat) : Option Bay := if h : n < 16 then some ⟨n, h⟩ else none

/-- A recipe number, 0..7. -/
def recipeNo? (n : Nat) : Option RecipeNo := if h : n < 8 then some ⟨n, h⟩ else none

/-- A mixer line, 0..3. -/
def line? (n : Nat) : Option Line := if h : n < 4 then some ⟨n, h⟩ else none

/-! ## Argument layouts (Table 9–4) -/

/-- DOSQ's arguments (R35). -/
structure DoseRequest where
  wetAsh : Nat
  moisture : Nat
  chlorideClass : Nat
  source : Nat
deriving DecidableEq, Repr

/-- CNFM's arguments (R115). -/
structure Confirmation where
  serial : Nat
  truck : Nat
  netMass : Nat
deriving DecidableEq, Repr

/-- DOSQ: wet ash (2), moisture (2), chloride class (1), source (1). -/
def doseRequest? : List Byte → Option DoseRequest
  | m1 :: m0 :: w1 :: w0 :: k :: src :: _ => some ⟨beNat [m1, m0], beNat [w1, w0], k.toNat, src.toNat⟩
  | _ => none

/-- DSCH, CLRB, LOCK, ULCK: bay (1). RCPE, RCPD: recipe (1). -/
def oneByte? : List Byte → Option Nat
  | b :: _ => some b.toNat
  | _ => none

/-- RCPR: recipe (1), field identifier (1). -/
def twoBytes? : List Byte → Option (Nat × Nat)
  | a :: b :: _ => some (a.toNat, b.toNat)
  | _ => none

/-- TMPR's first reading: bay (1), temperature (2). -/
def firstReading? : List Byte → Option (Nat × Int)
  | b :: t1 :: t0 :: _ => some (b.toNat, beInt t1 t0)
  | _ => none

/-- TMPR's second reading, in a frame of 7 or more bytes (R144). -/
def secondReading? : List Byte → Option (Nat × Int)
  | _ :: _ :: _ :: rest => firstReading? rest
  | _ => none

/-- CLNX: truck (2). -/
def truck? : List Byte → Option Nat
  | t1 :: t0 :: _ => some (beNat [t1, t0])
  | _ => none

/-- CNFM: serial (3), truck (2), net mass (2). -/
def confirmation? : List Byte → Option Confirmation
  | a :: b :: c :: t1 :: t0 :: n1 :: n0 :: _ => some ⟨beNat [a, b, c], beNat [t1, t0], beNat [n1, n0]⟩
  | _ => none

/-- RTRN, HOLD, UNHD, RJCT: serial (3). -/
def serial? : List Byte → Option Nat
  | a :: b :: c :: _ => some (beNat [a, b, c])
  | _ => none

/-- EXTD: serial (3), minutes (2). -/
def extension? : List Byte → Option (Nat × Nat)
  | a :: b :: c :: m1 :: m0 :: _ => some (beNat [a, b, c], beNat [m1, m0])
  | _ => none

/-- RCPW: recipe (1), field identifier (1), value (2). The value is given unsigned and signed (R24). -/
def recipeWrite? : List Byte → Option (Nat × Nat × Nat × Int)
  | r :: f :: v1 :: v0 :: _ => some (r.toNat, f.toNat, beNat [v1, v0], beInt v1 v0)
  | _ => none

/-- STIM: plant minute (4). -/
def minute? : List Byte → Option Nat
  | a :: b :: c :: d :: _ => some (beNat [a, b, c, d])
  | _ => none

/-- SPAR: parameter (1), index (1), value (2). -/
def parameter? : List Byte → Option (Nat × Nat × Nat)
  | p :: i :: v1 :: v0 :: _ => some (p.toNat, i.toNat, beNat [v1, v0])
  | _ => none

/-- QLOT: serial (3), page (1). -/
def lotPage? : List Byte → Option (Nat × Nat)
  | a :: b :: c :: p :: _ => some (beNat [a, b, c], p.toNat)
  | _ => none

/-- QREL: record index (1), page (1), and a part number (1) that is 0 where the frame has no byte for it (R146). -/
def recordPage? : List Byte → Option (Nat × Nat × Nat)
  | k :: p :: part :: _ => some (k.toNat, p.toNat, part.toNat)
  | k :: p :: [] => some (k.toNat, p.toNat, 0)
  | _ => none

/-- ATCL, ATMK: a set of kinds (2), refused with any of bits 13..15 present (R161, R162). -/
def kindSet? : List Byte → Option KindSet
  | hi :: lo :: _ => if beNat [hi, lo] < 8192 then some (BitVec.ofNat 13 (beNat [hi, lo])) else none
  | _ => none

end Sys2Proof.Machine
end

