-- ==== Sys2Proof/Machine/Flags.lean ====
section
/-! DEFINITION. The flags and conditions of the part: sets of attention kinds and who receives which (Table 10–1), the lot's flags,
the feed-permit levels (R65), and the conditions that the attention kinds follow (R85, R124, R137, R138). -/

namespace Sys2Proof.Machine

open Sys2Proof

/-! ## Attention kinds (Table 10–1) -/

/-- The number k of a kind. -/
def AttnKind.number : AttnKind → Nat
  | .restarted => 0
  | .haltActive => 1
  | .pourLate => 2
  | .doseVoid => 3
  | .queueReady => 4
  | .claimExpired => 5
  | .claimRevoked => 6
  | .bayStale => 7
  | .probeFault => 8
  | .overduePresent => 9
  | .hotHold => 10
  | .rejectedAtFront => 11
  | .timeUnset => 12

/-- Every kind. -/
def allKinds : List AttnKind :=
  [.restarted, .haltActive, .pourLate, .doseVoid, .queueReady, .claimExpired, .claimRevoked, .bayStale, .probeFault,
    .overduePresent, .hotHold, .rejectedAtFront, .timeUnset]

/-- The kinds whose type is condition; the others are latched. -/
def AttnKind.isCondition : AttnKind → Bool
  | .haltActive | .queueReady | .bayStale | .overduePresent | .rejectedAtFront | .timeUnset => true
  | .restarted | .pourLate | .doseVoid | .claimExpired | .claimRevoked | .probeFault | .hotHold => false

/-- Whether a station receives a kind. -/
def receives (st : Station) : AttnKind → Bool
  | .restarted => true
  | .haltActive => st.val < 4 || st = supervisorStation
  | .pourLate | .doseVoid => st.val < 4
  | .queueReady | .claimExpired | .claimRevoked => st = loadoutStation
  | .bayStale | .probeFault => st = hallStation || st = supervisorStation
  | .overduePresent | .hotHold | .rejectedAtFront | .timeUnset => st = supervisorStation

/-! ## Sets of kinds (R143, R156) -/

/-- Membership of a kind. -/
def KindSet.has (ks : KindSet) (k : AttnKind) : Bool := ks.getLsbD k.number

/-- The set of one kind. -/
def kindBit (k : AttnKind) : KindSet := BitVec.ofNat 13 (2 ^ k.number)

/-- The set with a kind added. -/
def KindSet.insert (ks : KindSet) (k : AttnKind) : KindSet := ks ||| kindBit k

/-- The set with a kind removed. -/
def KindSet.erase (ks : KindSet) (k : AttnKind) : KindSet := ks &&& ~~~ kindBit k

/-- The set of the kinds that satisfy a test. -/
def kindsThat (p : AttnKind → Bool) : KindSet := allKinds.foldl (fun acc k => if p k then KindSet.insert acc k else acc) 0

/-- The kinds that ATCL may remove for a station: latched and not RESTARTED (R161). -/
def clearable : KindSet := kindsThat fun k => !k.isCondition && k ≠ .restarted

/-- The kinds that a station's mask may hold: received, and not RESTARTED (R162). -/
def maskable (st : Station) : KindSet := kindsThat fun k => receives st k && k ≠ .restarted

/-! ## Lots, lines and permits -/

/-- The flags of a lot. -/
def Lot.flags (l : Lot) : LotFlags := ⟨l.wet, l.extended, l.interrupted, l.hotHeld⟩

/-- The states in which a lot stands in a lane and is credited (R95). -/
def LotState.credited : LotState → Bool
  | .curing | .overdue | .cured | .claimed => true
  | .dosed | .void | .rejected => false

/-- The lot is CURED and unheld. -/
def Lot.ready (l : Lot) : Bool := l.state = .cured && l.hold = none

/-- The lot stands at the front of its lane. -/
def Lot.atFront (l : Lot) : Bool := match l.place with
  | some p => p.position = 0
  | none => false

/-- The line's window is open. -/
def LineRecord.isDosed : LineRecord → Bool
  | .dosed _ _ _ => true
  | .idle | .void _ => false

/-- The line state that QLIN reports. -/
def LineRecord.reported : LineRecord → LineState
  | .idle => .idle
  | .dosed _ _ _ => .dosed
  | .void _ => .void

/-- The line's lot. -/
def LineRecord.serial : LineRecord → Option Nat
  | .idle => none
  | .dosed serial _ _ => some serial
  | .void serial => some serial

/-- The levels that R65 gives FP0..FP3: asserted exactly when the line is DOSED, the halt not registered and READY asserted. -/
def permitLevel (line : LineRecord) (halt ready : Bool) : Bool := line.isDosed && !halt && ready

/-! ## Conditions -/

/-- The live lot that holds a serial: the serial map (R5). -/
def State.lot? (s : State) (serial : Nat) : Option Lot := s.lots.find? (·.serial = serial)

/-- The number of live records (R1). -/
def State.liveCount (s : State) : Nat := s.lots.length

/-- The claim record that names a lot (R111). -/
def State.claimOf? (s : State) (serial : Nat) : Option Claim := s.claims.find? (·.serial = serial)

/-- A lane's stale indication: its reading is none or its stale mark set (R85). -/
def Lane.staleIndication (lane : Lane) : Bool := lane.reading.isNone || lane.stale

/-- BAY_STALE: some lane's stale indication is true (R85). -/
def State.anyStale (s : State) : Bool := s.lanes.toList.any Lane.staleIndication

/-- OVERDUE_PRESENT: some lot is OVERDUE (R138). -/
def State.anyOverdue (s : State) : Bool := s.lots.any (·.state = .overdue)

/-- The lane's front lot is REJECTED. -/
def State.frontRejected (s : State) (lane : Lane) : Bool := match lane.lots.head? with
  | some serial => (s.lot? serial).any (·.state = .rejected)
  | none => false

/-- REJECTED_AT_FRONT: some lane's front lot is REJECTED (R137). -/
def State.anyRejectedAtFront (s : State) : Bool := s.lanes.toList.any s.frontRejected

/-- QUEUE_READY: the dispatch queue holds at least one lot (R124). -/
def State.queueHolds (s : State) : Bool := !s.queue.isEmpty

/-! ## Values the link derives from the straps (Table 9–1) -/

/-- The identifier base that SA1 and SA0 select. -/
def identBase (p : Straps) : Nat := 0x100 * (1 + 2 * p.sa1.toNat + p.sa0.toNat)

/-- The bit rate that SB1 and SB0 select, in kbit/s. -/
def bitRate (p : Straps) : Nat := match p.sb1, p.sb0 with
  | false, false => 125
  | false, true => 250
  | true, false => 500
  | true, true => 1000

end Sys2Proof.Machine
end

