-- ==== Sys2Proof/Machine/Ops.lean ====
section
/-! DEFINITION. The shared operations over the state: raising attention (R157, R158), marking transmit slots (R151), setting
lines with their permits (R53, R65), changing, creating and freeing lots (R3 to R10), the lanes' front removal (R73, R74), the
dispatch queue's joins and leaves (R108 to R110), and ending claims (R119).

Each is one record update of the fields it may change, or a chain of others that are, so that every other field of the state after it
is the field before it; the lemmas that say so stand in Laws/State.lean, what each does to its own fields in Laws/Ops.lean. -/

namespace Sys2Proof.Machine

open Sys2Proof

/-! ## Saturating counters (00_scope, "Saturation") -/

/-- `a + b`, held at the limit. -/
def satAdd (limit a b : Nat) : Nat := min limit (a + b)

/-! ## Transmit slots (Table 9–12, Table 9–13) -/

/-- The answer slot of a station. -/
def answerSlot (st : Station) : SlotNo := ⟨st.val, by omega⟩

/-- The notice slot of a station. -/
def noticeSlot (st : Station) : SlotNo := ⟨7 + st.val, by omega⟩

/-- The slot of standing frame k (R153). -/
def standingSlot (k : StandingNo) : SlotNo := ⟨14 + k.val, by omega⟩

/-- A mark. -/
def SlotState.mark : SlotState → SlotState
  | .empty | .pending => .pending
  | .sending | .sendingMarked => .sendingMarked

/-- The start of an attempt. -/
def SlotState.start : SlotState → SlotState
  | .pending => .sending
  | x => x

/-- The completion of the attempt. -/
def SlotState.complete : SlotState → SlotState
  | .sending => .empty
  | .sendingMarked => .pending
  | x => x

/-- The failure of the attempt, by loss of arbitration or a bus error. -/
def SlotState.fail : SlotState → SlotState
  | .sending | .sendingMarked => .pending
  | x => x

/-- A mark on a slot (R151). -/
def markSlot (i : SlotNo) (s : State) : State := { s with slots := s.slots.set i s.slots[i].mark }

/-! ## Attention (R157, R158) -/

/-- The kind was not pending for the station and its mask does not hold it: its becoming pending marks the notice slot (R158). -/
def newsFor (s : State) (st : Station) (k : AttnKind) : Bool := !(s.pendingKinds[st].has k) && !(s.masks[st].has k)

/-- The station whose notice a slot carries. -/
def noticeStation? (i : SlotNo) : Option Station := if h : 7 ≤ i.val ∧ i.val < 14 then some ⟨i.val - 7, by omega⟩ else none

/-- A kind becomes pending for the stations of a test (R157), and the notice slot of each to which that is news is marked (R158). -/
def raiseFor (who : Station → Bool) (k : AttnKind) (s : State) : State :=
  { s with
    pendingKinds := Vector.ofFn fun st => if who st then s.pendingKinds[st].insert k else s.pendingKinds[st]
    slots := Vector.ofFn fun i => match noticeStation? i with
      | some st => if who st && newsFor s st k then s.slots[i].mark else s.slots[i]
      | none => s.slots[i] }

/-- A latched kind becomes pending for one station. -/
def raise (st : Station) (k : AttnKind) (s : State) : State := raiseFor (· = st) k s

/-- A kind ceases to be pending for every station that receives it. -/
def dropKind (k : AttnKind) (s : State) : State :=
  { s with pendingKinds := Vector.ofFn fun st => if receives st k then s.pendingKinds[st].erase k else s.pendingKinds[st] }

/-- The owner reports the value of a condition: pending for each station that receives it exactly while true (R157). -/
def reportCondition (k : AttnKind) (value : Bool) (s : State) : State :=
  if value then raiseFor (receives · k) k s else dropKind k s

/-- HALT_ACTIVE as the registered halt level stands (R67, R68). -/
def reportHalt (s : State) : State := reportCondition .haltActive s.haltRegistered s

/-- BAY_STALE as the lanes stand (R85). -/
def reportStale (s : State) : State := reportCondition .bayStale s.anyStale s

/-- TIME_UNSET as the time-valid state stands (R92). -/
def reportTime (s : State) : State := reportCondition .timeUnset (!s.timeValid) s

/-- QUEUE_READY as the dispatch queue stands (R124). -/
def reportQueue (s : State) : State := reportCondition .queueReady s.queueHolds s

/-- OVERDUE_PRESENT as the lots stand (R138). -/
def reportOverdue (s : State) : State := reportCondition .overduePresent s.anyOverdue s

/-- REJECTED_AT_FRONT as the lanes' fronts stand (R137). -/
def reportRejected (s : State) : State := reportCondition .rejectedAtFront s.anyRejectedAtFront s

/-! ## Lines and permits -/

/-- A line's record takes a value, and its permit the level R65 gives it. -/
def setLine (n : Line) (r : LineRecord) (s : State) : State :=
  { s with
    lines := s.lines.set n r
    permits := s.permits.set n (permitLevel r s.haltRegistered s.ready) }

/-- The halt level registered becomes the level named; every permit takes its level of R65, and the qualification timer
goes idle (R66). -/
def registerHalt (level : Bool) (s : State) : State :=
  { s with
    haltRegistered := level
    qualifying := false
    permits := Vector.ofFn fun n => permitLevel s.lines[n] level s.ready }

/-! ## Lots -/

/-- The serial after a serial: 1 follows 16,777,215 (R6). -/
def nextAfter (serial : Nat) : Nat := if serial < Config.maxSerial then serial + 1 else 1

/-- The first serial from a candidate on that no live lot holds (R6), the candidate advancing at most `fuel` times. -/
def freeSerial (live : List Nat) : Nat → Nat → Nat
  | 0, candidate => candidate
  | fuel + 1, candidate => if candidate ∈ live then freeSerial live fuel (nextAfter candidate) else candidate

/-- The serial that the next lot takes (R6): at most as many candidates are passed over as lots are live. -/
def State.allocated (s : State) : Nat := freeSerial (s.lots.map (·.serial)) s.lots.length s.nextSerial

/-- A lot is created in a FREE record (R7), and the counter is set to the value after its serial (R6). -/
def createLot (l : Lot) (s : State) : State := { s with lots := s.lots ++ [l], nextSerial := nextAfter l.serial }

/-- The record of a lot is changed in place. -/
def changeLot (serial : Nat) (f : Lot → Lot) (s : State) : State :=
  { s with lots := s.lots.map fun l => if l.serial = serial then f l else l }

/-- The lot's record becomes FREE and its serial is released (R10). -/
def freeLot (serial : Nat) (s : State) : State := { s with lots := s.lots.filter (·.serial ≠ serial) }

/-- The lot takes a state. -/
def Lot.withState (st : LotState) (l : Lot) : Lot := { l with state := st }

/-- The lot moves one position forward in its lane (R73). -/
def Lot.advanced (l : Lot) : Lot := { l with place := l.place.map fun p => { p with position := p.position - 1 } }

/-- The lane a lot stands in. A lot in no lane gives bay 0: no rule asks for the bay of such a lot (log entry 14). -/
def Lot.bay (l : Lot) : Bay := match l.place with
  | some p => p.bay
  | none => 0

/-! ## Lanes -/

/-- A lane's record takes a value. -/
def setLane (b : Bay) (lane : Lane) (s : State) : State := { s with lanes := s.lanes.set b lane }

/-- The lane's list with one serial appended at the back (R72). -/
def Lane.withBack (serial : Nat) (lane : Lane) : Lane := { lane with lots := lane.lots ++ [serial] }

/-- Placement: the lot goes to the back of the lane (R72) and becomes CURING there, its pour minute the plant minute (R8). -/
def placeLot (b : Bay) (serial : Nat) (s : State) : State :=
  { s with
    lanes := s.lanes.set b (s.lanes[b].withBack serial)
    lots := s.lots.map fun l =>
      if l.serial = serial then { l with state := .curing, place := some ⟨b, s.lanes[b].lots.length, s.plantMinute⟩ } else l }

/-- Front removal: the front lot leaves the lane and its record becomes FREE; the lots behind it move one position forward (R73). -/
def removeFront (b : Bay) (s : State) : State :=
  { s with
    lanes := s.lanes.set b { s.lanes[b] with lots := s.lanes[b].lots.tail }
    lots := (s.lots.filter fun l => some l.serial ≠ s.lanes[b].lots.head?).map fun l =>
      if l.serial ∈ s.lanes[b].lots.tail then l.advanced else l }

/-! ## The dispatch queue (R108 to R110) -/

/-- A lot joins at the tail, unless it is a member already (R108). -/
def joinTail (serial : Nat) (s : State) : State :=
  { s with queue := if serial ∈ s.queue then s.queue else s.queue ++ [serial] }

/-- A lot rejoins at the head (R110). -/
def rejoinHead (serial : Nat) (s : State) : State := { s with queue := serial :: s.queue }

/-- A lot leaves from wherever it stands, and the gap closes (R109). -/
def leaveQueue (serial : Nat) (s : State) : State := { s with queue := s.queue.filter (· ≠ serial) }

/-- The front lot of a lane that joins the queue if it is no member: CURED and unheld (R74, R108). -/
def State.readyFront (s : State) (b : Bay) : Option Nat := match s.lanes[b].lots.head? with
  | some serial => if (s.lot? serial).any Lot.ready then some serial else none
  | none => none

/-- The lane's front lot joins the queue's tail if it is CURED, unheld and no member (R74, R108). -/
def joinFront (b : Bay) (s : State) : State :=
  { s with queue := match s.readyFront b with
      | some serial => if serial ∈ s.queue then s.queue else s.queue ++ [serial]
      | none => s.queue }

/-- The hand-over of a lane's new front after a front removal (R74): the dispatch unit judges it for the queue, and
REJECTED_AT_FRONT is judged again. -/
def handOver (b : Bay) (s : State) : State := reportRejected (reportQueue (joinFront b s))

/-! ## Claims -/

/-- The claim record that names a lot is removed, the others keeping their order (R111). -/
def removeClaim (serial : Nat) (s : State) : State := { s with claims := s.claims.filter (·.serial ≠ serial) }

/-- A claim ends without a confirmation (R110, R114, R117): its record is removed, and its lot is CURED at the queue's head. -/
def returnClaim (serial : Nat) (s : State) : State :=
  rejoinHead serial (changeLot serial (Lot.withState .cured) (removeClaim serial s))

/-- A claim is revoked (R119): its record is removed and CLAIM_REVOKED becomes pending for the loadout station. -/
def revokeClaim (serial : Nat) (s : State) : State := raise loadoutStation .claimRevoked (removeClaim serial s)

/-! ## Voiding a dose -/

/-- The line's DOSED lot and the line become VOID, the timer stops, the permit drops, and DOSE_VOID becomes pending for the line's
mixer (R57, R63). -/
def voidDose (n : Line) (serial : Nat) (s : State) : State :=
  raise (mixerStation n) .doseVoid (setLine n (.void serial) (changeLot serial (Lot.withState .void) s))

/-! ## Answers -/

/-- What an owner gives back for a command it takes (R148): the status, the results, and the state after its acting. -/
structure Taken where
  status : Status
  results : Results
  state : State
deriving DecidableEq, Repr

/-- A refusal: no results, no change of state (00_scope, "refused"). -/
def refuse (status : Status) (s : State) : Taken := ⟨status, .none, s⟩

/-- An acceptance. -/
def accept (results : Results) (s : State) : Taken := ⟨.ok, results, s⟩

end Sys2Proof.Machine
end

