-- ==== Sys2Proof/Machine/Attention.lean ====
section
/-! DEFINITION. The attention commands ATRD, ATCL and ATMK (R160 to R162), each on the sets of the station that sent it. -/

namespace Sys2Proof.Machine

open Sys2Proof

/-- A station's pending set takes a value. -/
def setPendingKinds (st : Station) (ks : KindSet) (s : State) : State := { s with pendingKinds := s.pendingKinds.set st ks }

/-- A station's mask takes a value. -/
def setMask (st : Station) (ks : KindSet) (s : State) : State := { s with masks := s.masks.set st ks }

/-- ATRD (R160): answers the pending set as it stood before, and clears RESTARTED. -/
def takeAtrd (st : Station) (s : State) : Taken :=
  accept (.attention s.pendingKinds[st] s.masks[st] s.startCause) (setPendingKinds st (s.pendingKinds[st].erase .restarted) s)

/-- ATCL (R161). -/
def takeAtcl (st : Station) (args : List Byte) (s : State) : Taken := match kindSet? args with
  | none => refuse .badArgument s
  | some ks =>
    let left : KindSet := s.pendingKinds[st] &&& ~~~ (ks &&& clearable)
    accept (.kinds left) (setPendingKinds st left s)

/-- ATMK (R162). -/
def takeAtmk (st : Station) (args : List Byte) (s : State) : Taken := match kindSet? args with
  | none => refuse .badArgument s
  | some ks => accept (.kinds (ks &&& maskable st)) (setMask st (ks &&& maskable st) s)

end Sys2Proof.Machine
end

