-- ==== Sys2Proof/Machine/Recipes.lean ====
section
/-! DEFINITION. The recipe table: fields and ranges (Table 2–1), the commands RCPW, RCPE, RCPD and RCPR (R23 to R29), and the selection
for a dose request (R30). -/

namespace Sys2Proof.Machine

open Sys2Proof

/-- The recipe fields, in the order of their identifiers 0..17 (Table 2–1). -/
inductive RecipeField where
  | sources
  | classLo
  | classHi
  | moistLo
  | moistHi
  | cementRatio
  | waterRatio
  | additiveRatio
  | wetAllowance
  | wetPenalty
  | target
  | datum
  | cap
  | minAge
  | maxAge
  | hotLimit
  | pourWindow
  | pourWarning
deriving DecidableEq, Repr

/-- The fields by identifier. -/
def allFields : List RecipeField :=
  [.sources, .classLo, .classHi, .moistLo, .moistHi, .cementRatio, .waterRatio, .additiveRatio, .wetAllowance, .wetPenalty,
    .target, .datum, .cap, .minAge, .maxAge, .hotLimit, .pourWindow, .pourWarning]

/-- The field of an identifier; `none` above 17. -/
def recipeField? (id : Nat) : Option RecipeField := allFields[id]?

/-- The least value of a field (Table 2–1; for SOURCES the least set value, R24). -/
def RecipeField.low : RecipeField → Int
  | .sources => 1
  | .classLo | .classHi | .moistLo | .moistHi => 0
  | .cementRatio => 50
  | .waterRatio => 150
  | .additiveRatio | .wetAllowance | .wetPenalty => 0
  | .target => 50
  | .datum => -200
  | .cap => 300
  | .minAge => 60
  | .maxAge => 120
  | .hotLimit => 0
  | .pourWindow => 300
  | .pourWarning => 0

/-- The greatest value of a field (Table 2–1; for SOURCES all four lines, R24). -/
def RecipeField.high : RecipeField → Int
  | .sources => 15
  | .classLo | .classHi => 7
  | .moistLo | .moistHi => 600
  | .cementRatio => 800
  | .waterRatio => 700
  | .additiveRatio => 80
  | .wetAllowance => 200
  | .wetPenalty => 500
  | .target => 12000
  | .datum => 100
  | .cap => 800
  | .minAge => 43200
  | .maxAge => 64800
  | .hotLimit => 10000
  | .pourWindow => 5400
  | .pourWarning => 5399

/-- The value lies in the field's range. -/
def RecipeField.admits (f : RecipeField) (v : Int) : Bool := f.low ≤ v && v ≤ f.high

/-- The value a field holds. -/
def Recipe.get (r : Recipe) : RecipeField → Int
  | .sources => r.sources.toNat
  | .classLo => r.classLo
  | .classHi => r.classHi
  | .moistLo => r.moistLo
  | .moistHi => r.moistHi
  | .cementRatio => r.cementRatio
  | .waterRatio => r.waterRatio
  | .additiveRatio => r.additiveRatio
  | .wetAllowance => r.wetAllowance
  | .wetPenalty => r.wetPenalty
  | .target => r.target
  | .datum => r.datum
  | .cap => r.cap
  | .minAge => r.minAge
  | .maxAge => r.maxAge
  | .hotLimit => r.hotLimit
  | .pourWindow => r.pourWindow
  | .pourWarning => r.pourWarning

/-- The record with one field written. -/
def Recipe.put (r : Recipe) (f : RecipeField) (v : Int) : Recipe := match f with
  | .sources => { r with sources := BitVec.ofInt 4 v }
  | .classLo => { r with classLo := v.toNat }
  | .classHi => { r with classHi := v.toNat }
  | .moistLo => { r with moistLo := v.toNat }
  | .moistHi => { r with moistHi := v.toNat }
  | .cementRatio => { r with cementRatio := v.toNat }
  | .waterRatio => { r with waterRatio := v.toNat }
  | .additiveRatio => { r with additiveRatio := v.toNat }
  | .wetAllowance => { r with wetAllowance := v.toNat }
  | .wetPenalty => { r with wetPenalty := v.toNat }
  | .target => { r with target := v.toNat }
  | .datum => { r with datum := v }
  | .cap => { r with cap := v.toNat }
  | .minAge => { r with minAge := v.toNat }
  | .maxAge => { r with maxAge := v.toNat }
  | .hotLimit => { r with hotLimit := v.toNat }
  | .pourWindow => { r with pourWindow := v.toNat }
  | .pourWarning => { r with pourWarning := v.toNat }

/-- The number of the first false consistency condition of Table 2–5, or 0 (R26). -/
def Recipe.failedCondition (r : Recipe) : Nat :=
  if r.classHi < r.classLo then 1
  else if r.moistHi < r.moistLo then 2
  else if r.maxAge ≤ r.minAge then 3
  else if r.pourWindow ≤ r.pourWarning then 4
  else if (r.cap : Int) ≤ r.datum then 5
  else 0

/-- The enabled flag takes a value. -/
def Recipe.withEnabled (b : Bool) (r : Recipe) : Recipe := { r with enabled := b }

/-- A recipe record takes a value. -/
def setRecipe (k : RecipeNo) (r : Recipe) (s : State) : State := { s with recipes := s.recipes.set k r }

/-- RCPW's value as the field reads it: signed for DATUM, unsigned for every other field (R24). -/
def fieldValue (f : RecipeField) (unsigned : Nat) (signed : Int) : Int := if f = .datum then signed else unsigned

/-- RCPW (Table 2–4). -/
def takeRcpw (args : List Byte) (s : State) : Taken := match recipeWrite? args with
  | none => refuse .badArgument s
  | some (r, id, unsigned, signed) => match recipeNo? r, recipeField? id with
    | some k, some f =>
      if !f.admits (fieldValue f unsigned signed) then refuse .badArgument s
      else if s.recipes[k].enabled then refuse .recipeEnabled s
      else
        accept (.recipeWritten k id (fieldValue f unsigned signed))
          (setRecipe k (s.recipes[k].put f (fieldValue f unsigned signed)) s)
    | _, _ => refuse .badArgument s

/-- RCPE (R25). -/
def takeRcpe (args : List Byte) (s : State) : Taken := match (oneByte? args).bind recipeNo? with
  | none => refuse .badArgument s
  | some k =>
    if s.recipes[k].enabled then accept (.recipeEnable k true 0) s
    else if s.recipes[k].failedCondition = 0 then
      accept (.recipeEnable k true 0) (setRecipe k (s.recipes[k].withEnabled true) s)
    else ⟨.badRecipe, .recipeEnable k false s.recipes[k].failedCondition, s⟩

/-- RCPD (R28). -/
def takeRcpd (args : List Byte) (s : State) : Taken := match (oneByte? args).bind recipeNo? with
  | none => refuse .badArgument s
  | some k => accept (.recipeDisabled k false) (setRecipe k (s.recipes[k].withEnabled false) s)

/-- RCPR (R29). -/
def takeRcpr (args : List Byte) (s : State) : Taken := match twoBytes? args with
  | none => refuse .badArgument s
  | some (r, id) => match recipeNo? r, recipeField? id with
    | some k, some f => accept (.recipeRead k id (s.recipes[k].get f) s.recipes[k].enabled) s
    | _, _ => refuse .badArgument s

/-- The recipe accepts the ash of a request (R30). -/
def Recipe.matchesAsh (r : Recipe) (source chlorideClass moisture : Nat) : Bool :=
  r.enabled && r.sources.getLsbD source && r.classLo ≤ chlorideClass && chlorideClass ≤ r.classHi
    && r.moistLo ≤ moisture && moisture ≤ r.moistHi

/-- The recipe numbers, lowest first. -/
def recipeNumbers : List RecipeNo := [0, 1, 2, 3, 4, 5, 6, 7]

/-- The selected recipe: the lowest-numbered enabled recipe that accepts the ash, if any does (R30). -/
def selectRecipe (recipes : Vector Recipe 8) (source chlorideClass moisture : Nat) : Option RecipeNo :=
  recipeNumbers.find? fun k => recipes[k].matchesAsh source chlorideClass moisture

end Sys2Proof.Machine
end

