-- ==== Sys2Proof/Machine/Dose.lean ====
section
/-! DEFINITION. The dose unit: the dose arithmetic (R38 to R44), DOSQ (R35, R36, R45, R46), and the SPAR parameters of the line dosing limits
(R49). -/

namespace Sys2Proof.Machine

open Sys2Proof

/-- A product divided by 1,000 and rounded up. -/
def perMilleUp (n : Nat) : Nat := (n + 999) / 1000

/-- A product divided by 1,000 and rounded down. -/
def perMilleDown (n : Nat) : Nat := n / 1000

/-- The quantities of the dose arithmetic (Table 3–4). -/
structure Dose where
  /-- D -/
  dryAsh : Nat
  /-- W_a -/
  ashWater : Nat
  /-- C -/
  cement : Nat
  /-- S -/
  solids : Nat
  /-- W_t -/
  targetWater : Nat
  /-- A -/
  additive : Nat
  /-- Al -/
  allowance : Nat
  /-- E, signed -/
  excess : Int
deriving DecidableEq, Repr

/-- D (R38). -/
def dryAsh (wetAsh moisture : Nat) : Nat := perMilleDown (wetAsh * (1000 - moisture))

/-- Steps 1 to 8 of Table 3–4. -/
def computeDose (r : Recipe) (wetAsh moisture : Nat) : Dose :=
  let d := dryAsh wetAsh moisture
  let c := perMilleUp (d * r.cementRatio)
  let wt := perMilleUp ((d + c) * r.waterRatio)
  { dryAsh := d
    ashWater := wetAsh - d
    cement := c
    solids := d + c
    targetWater := wt
    additive := perMilleUp (d * r.additiveRatio)
    allowance := perMilleDown ((d + c) * r.wetAllowance)
    excess := ((wetAsh - d : Nat) : Int) - wt }

/-- WET: the excess is above 0 (R41; a dose beyond the allowance is refused before this is read). -/
def Dose.wet (d : Dose) : Bool := 0 < d.excess

/-- The water excess exceeds the wet allowance (R41, check 8). -/
def Dose.tooWet (d : Dose) : Bool := (d.allowance : Int) < d.excess

/-- W (R41): the target water less the ash's own, or 0 for a wet dose. -/
def Dose.water (d : Dose) : Nat := d.targetWater - d.ashWater

/-- T (R43). -/
def effectiveTarget (r : Recipe) (wet : Bool) : Nat :=
  if wet then r.target * 600 + perMilleUp (r.target * 600 * r.wetPenalty) else r.target * 600

/-- The arguments lie in their ranges (Table 3–2). -/
def DoseRequest.inRange (q : DoseRequest) : Bool :=
  100 ≤ q.wetAsh && q.wetAsh ≤ 8000 && q.moisture ≤ 600 && q.chlorideClass ≤ 7 && q.source ≤ 3

/-- The lot of an accepted request (R7, R33). -/
def newLot (n : Line) (q : DoseRequest) (k : RecipeNo) (r : Recipe) (d : Dose) (serial : Nat) : Lot where
  serial := serial
  state := .dosed
  line := n
  source := q.source
  chlorideClass := q.chlorideClass
  recipe := k
  effectiveTarget := effectiveTarget r d.wet
  datum := r.datum
  cap := r.cap
  minAge := r.minAge
  maxAge := r.maxAge
  hotLimit := r.hotLimit
  wetAsh := q.wetAsh
  dryAsh := d.dryAsh
  cement := d.cement
  water := d.water
  additive := d.additive
  wet := d.wet
  extended := false
  interrupted := false
  hotHeld := false
  hold := none
  place := none
  age := 0
  maturity := 0
  hotMinutes := 0
  outages := 0
  extensions := 0

/-- The three masses of an answer (R46). -/
def Dose.results (d : Dose) : Results := .dose d.cement d.water d.additive

/-- The effects of an accepted request (R45): the lot is created and the line's window opened (R55). -/
def openDose (n : Line) (q : DoseRequest) (k : RecipeNo) (s : State) : State :=
  let r := s.recipes[k]
  setLine n (.dosed s.allocated r.pourWindow r.pourWarning)
    (createLot (newLot n q k r (computeDose r q.wetAsh q.moisture) s.allocated) s)

/-- Checks 8 and 9 of Table 3–3 on a computed dose: the status of the answer (R41, R42). -/
def doseStatus (d : Dose) (lim : LineLimits) : Status :=
  if d.tooWet then .tooWet
  else if lim.cementMax < d.cement then .overCement
  else if lim.waterMax < d.water then .overWater
  else if lim.additiveMax < d.additive then .overAdditive
  else if d.wet then .okWet
  else .ok

/-- DOSQ's taking once recipe k is selected: the arithmetic, checks 8 and 9, and the acceptance (R36, R45, R46). -/
def doseWith (n : Line) (q : DoseRequest) (k : RecipeNo) (s : State) : Taken :=
  let d := computeDose s.recipes[k] q.wetAsh q.moisture
  match doseStatus d s.limits[n] with
  | .tooWet => ⟨.tooWet, .tooWet d.excess d.allowance, s⟩
  | .ok => ⟨.ok, d.results, openDose n q k s⟩
  | .okWet => ⟨.okWet, d.results, openDose n q k s⟩
  | refusal => ⟨refusal, d.results, s⟩

/-- DOSQ from the mixer of line n (Table 3–3, checks 2 to 9). -/
def takeDosq (n : Line) (args : List Byte) (s : State) : Taken := match doseRequest? args with
  | none => refuse .badArgument s
  | some q =>
    if !q.inRange then refuse .badArgument s
    else if s.haltRegistered then refuse .plantHalted s
    else match s.lines[n] with
      | .dosed _ _ _ => refuse .lineBusy s
      | .void _ => refuse .lineBlocked s
      | .idle =>
        if Config.lotRecords ≤ s.liveCount then refuse .tableFull s
        else match selectRecipe s.recipes q.source q.chlorideClass q.moisture with
          | none => refuse .noRecipe s
          | some k => doseWith n q k s

/-- A line's dosing limits take a value. -/
def setLimits (n : Line) (lim : LineLimits) (s : State) : State := { s with limits := s.limits.set n lim }

/-- The answer and the effect of a SPAR that passes (R48). -/
def acceptParameter (parameter index value : Nat) (s : State) : Taken := accept (.parameter parameter index value) s

/-- SPAR of parameter 0 (R48, R49): index a mixer line, value 50..4,000. -/
def takeCementMax (index value : Nat) (s : State) : Taken := match line? index with
  | none => refuse .badArgument s
  | some n =>
    if value < 50 || 4000 < value then refuse .badArgument s
    else acceptParameter 0 index value (setLimits n { s.limits[n] with cementMax := value } s)

/-- SPAR of parameter 1 (R48, R49): index a mixer line, value 50..4,000. -/
def takeWaterMax (index value : Nat) (s : State) : Taken := match line? index with
  | none => refuse .badArgument s
  | some n =>
    if value < 50 || 4000 < value then refuse .badArgument s
    else acceptParameter 1 index value (setLimits n { s.limits[n] with waterMax := value } s)

/-- SPAR of parameter 2 (R48, R49): index a mixer line, value 0..400. -/
def takeAdditiveMax (index value : Nat) (s : State) : Taken := match line? index with
  | none => refuse .badArgument s
  | some n =>
    if 400 < value then refuse .badArgument s
    else acceptParameter 2 index value (setLimits n { s.limits[n] with additiveMax := value } s)

end Sys2Proof.Machine
end

