-- ==== Sys2Proof/Machine/Frames.lean ====
section
/-! DEFINITION. The frames byte by byte: command codes and their roles (Tables 9–4 and 9–9), status and value codes (Tables 9–10 and
9–3), and the layouts of answers, notices and standing frames (Tables 9–5 to 9–8). -/

namespace Sys2Proof.Machine

open Sys2Proof

/-! ## Commands -/

/-- The commands of Table 9–4. -/
inductive CommandCode where
  | dosq
  | dsch
  | abdn
  | qlin
  | tmpr
  | clnx
  | cnfm
  | rtrn
  | hold
  | unhd
  | rjct
  | clrb
  | extd
  | lock
  | ulck
  | rcpw
  | rcpe
  | rcpd
  | rcpr
  | stim
  | spar
  | rstw
  | rstc
  | qlot
  | qrel
  | atrd
  | atcl
  | atmk
deriving DecidableEq, Repr

/-- The code of a command (Table 9–4). -/
def CommandCode.byte : CommandCode → Byte
  | .dosq => 0x10
  | .dsch => 0x11
  | .abdn => 0x12
  | .qlin => 0x13
  | .tmpr => 0x20
  | .clnx => 0x30
  | .cnfm => 0x31
  | .rtrn => 0x32
  | .hold => 0x40
  | .unhd => 0x41
  | .rjct => 0x42
  | .clrb => 0x43
  | .extd => 0x44
  | .lock => 0x45
  | .ulck => 0x46
  | .rcpw => 0x48
  | .rcpe => 0x49
  | .rcpd => 0x4A
  | .rcpr => 0x4B
  | .stim => 0x4C
  | .spar => 0x4D
  | .rstw => 0x4E
  | .rstc => 0x4F
  | .qlot => 0x60
  | .qrel => 0x61
  | .atrd => 0x70
  | .atcl => 0x71
  | .atmk => 0x72

/-- Every command. -/
def allCommands : List CommandCode :=
  [.dosq, .dsch, .abdn, .qlin, .tmpr, .clnx, .cnfm, .rtrn, .hold, .unhd, .rjct, .clrb, .extd, .lock, .ulck, .rcpw, .rcpe,
    .rcpd, .rcpr, .stim, .spar, .rstw, .rstc, .qlot, .qrel, .atrd, .atcl, .atmk]

/-- The command of a code byte, if there is one (R148). -/
def commandOf? (b : Byte) : Option CommandCode := allCommands.find? (·.byte = b)

/-- The roles of Table 0–1. -/
inductive Role where
  | mixer
  | hall
  | loadout
  | supervisor
deriving DecidableEq, Repr

/-- A station's role, by its index alone. -/
def roleOf (st : Station) : Role :=
  if st.val < 4 then .mixer else if st = hallStation then .hall else if st = loadoutStation then .loadout else .supervisor

/-- The command is permitted to the role (Table 9–9). -/
def CommandCode.permits (c : CommandCode) (r : Role) : Bool := match c with
  | .dosq | .dsch | .abdn | .qlin => r = .mixer
  | .tmpr => r = .hall
  | .clnx | .cnfm | .rtrn => r = .loadout
  | .hold | .unhd | .rjct | .clrb | .extd | .lock | .ulck | .rcpw | .rcpe | .rcpd | .rcpr | .stim | .spar | .rstw | .rstc =>
    r = .supervisor
  | .qrel => r = .loadout || r = .supervisor
  | .qlot | .atrd | .atcl | .atmk => true

/-! ## Codes of values -/

/-- The status code (Table 9–10). -/
def Status.code : Status → Nat
  | .ok => 0
  | .okWet => 1
  | .notPermitted => 2
  | .unknownCommand => 3
  | .badArgument => 4
  | .plantHalted => 5
  | .lineBusy => 6
  | .lineBlocked => 7
  | .tableFull => 8
  | .noRecipe => 9
  | .tooWet => 10
  | .overCement => 11
  | .overWater => 12
  | .overAdditive => 13
  | .noDose => 14
  | .bayLocked => 15
  | .bayFull => 16
  | .unknownLot => 17
  | .wrongState => 18
  | .queueEmpty => 19
  | .claimLimit => 20
  | .truckBusy => 21
  | .notClaimed => 22
  | .notRejected => 23
  | .bayEmpty => 24
  | .recipeEnabled => 25
  | .badRecipe => 26
  | .bayNotEmpty => 27
  | .noRecord => 28

/-- The lot state code (Table 9–3). -/
def LotState.code : LotState → Nat
  | .dosed => 1
  | .void => 2
  | .curing => 3
  | .overdue => 4
  | .cured => 5
  | .claimed => 6
  | .rejected => 7

/-- The hold reason code (Table 9–3). -/
def holdCode : Option HoldReason → Nat
  | none => 0
  | some .supervisor => 1
  | some .hot => 2

/-- The line state code (Table 9–3). -/
def LineState.code : LineState → Nat
  | .idle => 0
  | .dosed => 1
  | .void => 2

/-- The start cause code (Table 9–3). -/
def StartCause.code : StartCause → Nat
  | .cold => 0
  | .warm => 1
  | .supervisorWarm => 2
  | .supervisorCold => 3

/-- The reading result code (Table 9–3). -/
def readingCode : Option Bool → Nat
  | some false => 0
  | some true => 1
  | none => 0xFF

/-- The flags byte (R143), bits 0 to 3. -/
def LotFlags.code (f : LotFlags) : Nat := f.wet.toNat + 2 * f.extended.toNat + 4 * f.interrupted.toNat + 8 * f.hotHeld.toNat

/-- A byte of line in bits 0..1, source in bits 2..3 and recipe in bits 4..6 (Tables 9–6, 9–7). -/
def originCode (line : Line) (source : Nat) (recipe : RecipeNo) : Nat := line.val + 4 * source + 16 * recipe.val

/-- A serial, 0 when absent (R143). -/
def serialField (serial : Option Nat) : List Byte := u24 (serial.getD 0)

/-- A one-byte field, 0xFF when absent (R143). -/
def byteField (value : Option Nat) : List Byte := u8 (value.getD 0xFF)

/-- A temperature, 0x8000 when absent (R143). -/
def temperatureField (t : Option Int) : List Byte := s16 (t.getD (-32768))

/-- A set of kinds in two bytes (R143). -/
def kindsField (ks : KindSet) : List Byte := u16 ks.toNat

/-- A yes or no (Table 9–3). -/
def boolField (b : Bool) : List Byte := u8 b.toNat

/-! ## Answers -/

/-- Results as they stand in an answer from byte 2 on, before the filling with 0 (Tables 9–5, 9–6, 9–7). -/
def Results.fields : Results → List Byte
  | .none => []
  | .dose c w a => u16 c ++ u16 w ++ u16 a
  | .tooWet e al => s16 e ++ u16 al
  | .discharged serial bay position => u24 serial ++ u8 bay.val ++ u8 position
  | .abandoned serial before => u24 serial ++ u8 before.code
  | .line state permit halt serial remaining =>
    u8 (state.code + 4 * permit.toNat + 8 * halt.toNat) ++ serialField serial ++ u16 remaining
  | .readings count first second => u8 count ++ u8 (readingCode (some first)) ++ u8 (readingCode second)
  | .laneLock bay locked occupancy => u8 bay.val ++ boolField locked ++ u8 occupancy
  | .recipeWritten recipe field value => u8 recipe.val ++ u8 field ++ s16 value
  | .recipeEnable recipe enabled condition => u8 recipe.val ++ boolField enabled ++ u8 condition
  | .recipeDisabled recipe enabled => u8 recipe.val ++ boolField enabled
  | .recipeRead recipe field value enabled => u8 recipe.val ++ u8 field ++ s16 value ++ boolField enabled
  | .plantMinute minute => u32 minute
  | .parameter id index value => u8 id ++ u8 index ++ u16 value
  | .claimed serial bay margin => u24 serial ++ u24 (bay.val * 1048576 + min Config.maxMargin margin)
  | .confirmed serial records => u24 serial ++ u8 records
  | .returned serial queueLength => u24 serial ++ u8 queueLength
  | .held serial state reason => u24 serial ++ u8 state.code ++ u8 (holdCode reason)
  | .unheld serial state queueLength => u24 serial ++ u8 state.code ++ u8 queueLength
  | .rejected serial before after => u24 serial ++ u8 before.code ++ u8 after.code
  | .cleared bay serial occupancy => u8 bay.val ++ u24 serial ++ u8 occupancy
  | .extended serial maxAge state => u24 serial ++ u16 maxAge ++ u8 state.code
  | .attention pending mask cause => kindsField pending ++ kindsField mask ++ u8 cause.code
  | .kinds set => kindsField set
  | .lotIdentity state reason flags ln source recipe chlorideClass bay position =>
    u8 state.code ++ u8 (flags.code + 16 * holdCode reason) ++ u8 (originCode ln source recipe) ++ u8 chlorideClass
      ++ byteField (bay.map (·.val)) ++ byteField position
  | .lotMaturity maturity target => u24 maturity ++ u24 target
  | .lotAge age minAge maxAge => u16 age ++ u16 minAge ++ u16 maxAge
  | .lotHeat hotMinutes hotLimit outages extensions => u16 hotMinutes ++ u16 hotLimit ++ u8 outages ++ u8 extensions
  | .releaseIdentity serial truck ln source recipe => u24 serial ++ u16 truck ++ u8 (originCode ln source recipe)
  | .releasePlace serial bay flags => u24 serial ++ u8 bay.val ++ u8 flags.code
  | .releaseMinute minute => u32 minute
  | .releaseCure finalMaturity target => u24 finalMaturity ++ u24 target
  | .releaseHistory finalAge hotMinutes outages extensions => u16 finalAge ++ u16 hotMinutes ++ u8 outages ++ u8 extensions
  | .releaseDose dryAsh cement water => u16 dryAsh ++ u16 cement ++ u16 water
  | .releaseLoad additive netMass wetAsh => u16 additive ++ u16 netMass ++ u16 wetAsh

/-- Bytes filled with 0 to a length (R143, R145). -/
def filledTo (n : Nat) (bytes : List Byte) : List Byte := bytes ++ List.replicate (n - bytes.length) 0

/-- The status code with the LOST mark in bit 7 (R145). -/
def statusByte (status : Status) (lost : Bool) : Nat := status.code + 128 * lost.toNat

/-- The eight bytes of an answer frame (R145). -/
def Answer.bytes (a : Answer) : List Byte := filledTo 8 ([a.code] ++ u8 (statusByte a.status a.lost) ++ a.results.fields)

/-! ## Notices and standing frames (Table 9–8) -/

/-- The data bytes of a frame that the part sends. -/
def TxFrame.bytes : TxFrame → List Byte
  | .answer _ a => a.bytes
  | .notice _ unmasked pending cause => kindsField unmasked ++ kindsField pending ++ u8 cause.code
  | .status cause timeValid halt live queueLength claims records =>
    filledTo 8 (u8 cause.code ++ u8 (timeValid.toNat + 2 * halt.toNat) ++ u8 live ++ u8 queueLength ++ u8 claims ++ u8 records)
  | .queueHead serial bay queueLength =>
    filledTo 8 (serialField serial ++ byteField (bay.map (·.val)) ++ u8 queueLength)
  | .lane _ locked stale capacity occupancy reading front =>
    u8 (locked.toNat + 2 * stale.toNat) ++ u8 capacity ++ u8 occupancy ++ temperatureField reading ++ serialField front

/-- The identifier of a frame that the part sends, over the identifier base (Table 9–2). -/
def TxFrame.ident (base : Nat) : TxFrame → Nat
  | .answer st _ => base + 0x10 + st.val
  | .notice st _ _ _ => base + 0x20 + st.val
  | .status .. => base + 0x30
  | .queueHead .. => base + 0x31
  | .lane bay .. => base + 0x32 + bay.val

end Sys2Proof.Machine
end

