-- ==== Sys2Proof/Machine/LotTable.lean ====
section
/-! DEFINITION. The lot table's command QLOT (R19, R20): one page of a live lot's record. -/

namespace Sys2Proof.Machine

open Sys2Proof

/-- A page of a lot's record (Table 1–7). -/
def lotPage (page : Nat) (l : Lot) : Results := match page with
  | 0 => .lotIdentity l.state l.hold l.flags l.line l.source l.recipe l.chlorideClass (l.place.map (·.bay)) (l.place.map (·.position))
  | 1 => .lotMaturity l.maturity l.effectiveTarget
  | 2 => .lotAge l.age l.minAge l.maxAge
  | _ => .lotHeat l.hotMinutes l.hotLimit l.outages l.extensions

/-- QLOT (Table 1–6, R20). -/
def takeQlot (args : List Byte) (s : State) : Taken := match lotPage? args with
  | none => refuse .badArgument s
  | some (serial, page) =>
    if 3 < page then refuse .badArgument s
    else match s.lot? serial with
      | none => refuse .unknownLot s
      | some l => accept (lotPage page l) s

end Sys2Proof.Machine
end

