-- ==== Sys2Proof/Machine/Quality.lean ====
section
/-! DEFINITION. The quality interventions HOLD, UNHD, RJCT, CLRB and EXTD (R127 to R138). -/

namespace Sys2Proof.Machine

open Sys2Proof

/-- The lot with its hold as given. -/
def Lot.withHold (h : Option HoldReason) (l : Lot) : Lot := { l with hold := h }

/-- The effects of a HOLD on an unheld CURING, OVERDUE or CURED lot (R128). -/
def holdLot (serial : Nat) (s : State) : State :=
  reportQueue (leaveQueue serial (changeLot serial (Lot.withHold (some .supervisor)) s))

/-- The effects of a HOLD on a CLAIMED lot (R129). -/
def holdClaimed (serial : Nat) (s : State) : State :=
  revokeClaim serial (changeLot serial (fun l => (l.withState .cured).withHold (some .supervisor)) s)

/-- HOLD (R127 to R129). -/
def takeHold (args : List Byte) (s : State) : Taken := match serial? args with
  | none => refuse .badArgument s
  | some serial => match s.lot? serial with
    | none => refuse .unknownLot s
    | some l => match l.state with
      | .curing | .overdue | .cured => match l.hold with
        | some reason => accept (.held serial l.state (some reason)) s
        | none => accept (.held serial l.state (some .supervisor)) (holdLot serial s)
      | .claimed => accept (.held serial .cured (some .supervisor)) (holdClaimed serial s)
      | .dosed | .void | .rejected => refuse .wrongState s

/-- The effects of an UNHD (R130): a CURED front lot joins the queue's tail. -/
def unholdLot (l : Lot) (s : State) : State :=
  let s := changeLot l.serial (Lot.withHold none) s
  if l.state = .cured && l.atFront then reportQueue (joinTail l.serial s) else s

/-- UNHD (R127, R130). -/
def takeUnhd (args : List Byte) (s : State) : Taken := match serial? args with
  | none => refuse .badArgument s
  | some serial => match s.lot? serial with
    | none => refuse .unknownLot s
    | some l => match l.state, l.hold with
      | .curing, some _ | .overdue, some _ | .cured, some _ =>
        let after := unholdLot l s
        accept (.unheld serial l.state after.queue.length) after
      | _, _ => refuse .wrongState s

/-- The effects of an RJCT on a lot in its lane (R133). -/
def rejectLot (l : Lot) (s : State) : State :=
  let s := reportQueue (leaveQueue l.serial (changeLot l.serial (fun x => (x.withState .rejected).withHold none) s))
  let s := if l.state = .claimed then revokeClaim l.serial s else s
  let s := if l.atFront then reportRejected s else s
  if l.state = .overdue then reportOverdue s else s

/-- RJCT (R127, R132, R133). -/
def takeRjct (args : List Byte) (s : State) : Taken := match serial? args with
  | none => refuse .badArgument s
  | some serial => match s.lot? serial with
    | none => refuse .unknownLot s
    | some l => match l.state with
      | .dosed => accept (.rejected serial .dosed .void) (voidDose l.line serial s)
      | .curing | .overdue | .cured | .claimed => accept (.rejected serial l.state .rejected) (rejectLot l s)
      | .void | .rejected => refuse .wrongState s

/-- CLRB (R134). -/
def takeClrb (args : List Byte) (s : State) : Taken := match (oneByte? args).bind bay? with
  | none => refuse .badArgument s
  | some b => match s.lanes[b].lots with
    | [] => refuse .bayEmpty s
    | front :: behind =>
      if s.frontRejected s.lanes[b] then accept (.cleared b front behind.length) (handOver b (removeFront b s))
      else refuse .notRejected s

/-- The lot extended by a number of minutes (R135). -/
def Lot.extendedBy (minutes : Nat) (l : Lot) : Lot :=
  { l with
    state := .curing
    maxAge := satAdd Config.maxMinutes l.maxAge minutes
    extensions := satAdd Config.maxCount l.extensions 1
    extended := true }

/-- The effects of an EXTD (R135): an OVERDUE lot becomes CURING and OVERDUE_PRESENT is judged again (R138). -/
def extendLot (l : Lot) (minutes : Nat) (s : State) : State :=
  let s := changeLot l.serial (Lot.extendedBy minutes) s
  if l.state = .overdue then reportOverdue s else s

/-- EXTD (R127, R135). -/
def takeExtd (args : List Byte) (s : State) : Taken := match extension? args with
  | none => refuse .badArgument s
  | some (serial, minutes) =>
    if minutes < 60 || 10080 < minutes then refuse .badArgument s
    else match s.lot? serial with
      | none => refuse .unknownLot s
      | some l => match l.state with
        | .curing | .overdue => accept (.extended serial (l.extendedBy minutes).maxAge .curing) (extendLot l minutes s)
        | .dosed | .void | .cured | .claimed | .rejected => refuse .wrongState s

end Sys2Proof.Machine
end

