-- ==== Sys2Proof/Machine/DispatchUnit.lean ====
section
/-! DEFINITION. The dispatch unit: CLNX, CNFM and RTRN (R112 to R117), the claim timers (R114), the release log and QREL (R121 to R123), and the
SPAR parameter CLAIM_TIMEOUT (R120). -/

namespace Sys2Proof.Machine

open Sys2Proof

/-- The lot's maturity less its effective target (R113). -/
def Lot.margin (l : Lot) : Nat := l.maturity - l.effectiveTarget

/-- The lot at the queue's head is claimed for a truck (R113): it leaves the queue, becomes CLAIMED, and its claim record is
appended. -/
def claimHead (serial truck : Nat) (s : State) : State :=
  reportQueue { s with
    queue := s.queue.tail
    lots := s.lots.map fun l => if l.serial = serial then l.withState .claimed else l
    claims := s.claims ++ [⟨serial, truck, s.claimTimeout⟩] }

/-- CLNX (Table 7–2, R113). -/
def takeClnx (args : List Byte) (s : State) : Taken := match truck? args with
  | none => refuse .badArgument s
  | some truck =>
    if truck = 0 then refuse .badArgument s
    else match s.queue with
      | [] => refuse .queueEmpty s
      | serial :: _ =>
        if Config.maxClaims ≤ s.claims.length then refuse .claimLimit s
        else if s.claims.any (·.truck = truck) then refuse .truckBusy s
        else match s.lot? serial with
          | none => accept (.claimed serial 0 0) (claimHead serial truck s)
          | some l => accept (.claimed serial l.bay l.margin) (claimHead serial truck s)

/-- The release record of a confirmed lot (Table 7–6). -/
def releaseRecord (l : Lot) (truck netMass plantMinute : Nat) : ReleaseRecord where
  serial := l.serial
  recipe := l.recipe
  line := l.line
  source := l.source
  bay := l.bay
  pourMinute := match l.place with
    | some p => p.pourMinute
    | none => 0
  dispatchMinute := plantMinute
  finalMaturity := l.maturity
  effectiveTarget := l.effectiveTarget
  finalAge := l.age
  hotMinutes := l.hotMinutes
  outages := l.outages
  extensions := l.extensions
  wet := l.wet
  extended := l.extended
  interrupted := l.interrupted
  hotHeld := l.hotHeld
  dryAsh := l.dryAsh
  cement := l.cement
  water := l.water
  additive := l.additive
  wetAsh := l.wetAsh
  truck := truck
  netMass := netMass

/-- A record is appended after the newest, the oldest discarded when the log is full (R121). -/
def appendRecord (log : List ReleaseRecord) (r : ReleaseRecord) : List ReleaseRecord :=
  (log ++ [r]).drop (log.length + 1 - Config.logRecords)

/-- The effects of an accepted CNFM, in the order of R116. -/
def confirmLot (l : Lot) (truck netMass : Nat) (s : State) : State :=
  handOver l.bay (removeFront l.bay (removeClaim l.serial
    { s with releaseLog := appendRecord s.releaseLog (releaseRecord l truck netMass s.plantMinute) }))

/-- The lot is CLAIMED and a claim record names it with the truck (Table 7–3, check 6). -/
def claimedBy (l : Lot) (truck : Nat) (s : State) : Bool :=
  l.state = .claimed && s.claims.any fun c => c.serial = l.serial && c.truck = truck

/-- CNFM (Table 7–3, R116). -/
def takeCnfm (args : List Byte) (s : State) : Taken := match confirmation? args with
  | none => refuse .badArgument s
  | some q =>
    if q.truck = 0 || 40000 < q.netMass then refuse .badArgument s
    else match s.lot? q.serial with
      | none => refuse .unknownLot s
      | some l =>
        if claimedBy l q.truck s then
          let after := confirmLot l q.truck q.netMass s
          accept (.confirmed q.serial after.releaseLog.length) after
        else refuse .notClaimed s

/-- RTRN (R117). -/
def takeRtrn (args : List Byte) (s : State) : Taken := match serial? args with
  | none => refuse .badArgument s
  | some serial => match s.lot? serial with
    | none => refuse .unknownLot s
    | some l =>
      if l.state = .claimed then
        let after := reportQueue (returnClaim serial s)
        accept (.returned serial after.queue.length) after
      else refuse .notClaimed s

/-- The part of a page of a release record (Tables 7–7 and 9–7). -/
def recordPart (page part : Nat) (r : ReleaseRecord) : Results := match page, part with
  | 0, 0 => .releaseIdentity r.serial r.truck r.line r.source r.recipe
  | 0, _ => .releasePlace r.serial r.bay ⟨r.wet, r.extended, r.interrupted, r.hotHeld⟩
  | 1, 0 => .releaseMinute r.pourMinute
  | 1, _ => .releaseMinute r.dispatchMinute
  | 2, 0 => .releaseCure r.finalMaturity r.effectiveTarget
  | 2, _ => .releaseHistory r.finalAge r.hotMinutes r.outages r.extensions
  | _, 0 => .releaseDose r.dryAsh r.cement r.water
  | _, _ => .releaseLoad r.additive r.netMass r.wetAsh

/-- QREL (R123, R146): k counts back from the newest record. -/
def takeQrel (args : List Byte) (s : State) : Taken := match recordPage? args with
  | none => refuse .badArgument s
  | some (k, page, part) =>
    if 3 < page || 1 < part then refuse .badArgument s
    else match s.releaseLog.reverse[k]? with
      | none => refuse .noRecord s
      | some r => accept (recordPart page part r) s

/-- SPAR of parameter 5 (R48, R120): index 0, value 120..3,600. -/
def takeClaimTimeout (index value : Nat) (s : State) : Taken :=
  if index ≠ 0 || value < 120 || 3600 < value then refuse .badArgument s
  else ⟨.ok, .parameter 5 index value, { s with claimTimeout := value }⟩

/-- The claim has its last second left: the next second event expires it. -/
def Claim.ends (c : Claim) : Bool := c.remaining ≤ 1

/-- A claim expires (R114): it is returned to the queue's head, and CLAIM_EXPIRED becomes pending for the loadout station. -/
def expireClaim (c : Claim) (s : State) : State := raise loadoutStation .claimExpired (returnClaim c.serial s)

/-- Every claim at its last second expires, latest claim first, so that the earliest ends at the head (R114). -/
def expireClaims (s : State) : State := reportQueue ((s.claims.filter Claim.ends).foldr expireClaim s)

/-- Every open claim's remaining seconds fall by one. -/
def countClaims (s : State) : State :=
  { s with claims := s.claims.map fun c => { c with remaining := c.remaining - 1 } }

/-- The dispatch unit takes a second event (R114): the claims at their last second expire, the others run down by one. -/
def runClaims (s : State) : State := countClaims (if s.claims.any Claim.ends then expireClaims s else s)

/-- CLAIM_EXPIRY: the dispatch unit takes the expiries of the coming second event (R114). No claim expires but in service, from
its last remaining second (log entries 4 and 5). DESIGN CHOICE: a claim that a CLNX makes between this row and its second event is run
down by that second event, as any claim it finds (log entry 25). -/
def execClaimExpiry (s : State) : Host.Outcome State Fault Refusal :=
  .next (if s.phase = .inService && s.claims.any Claim.ends then expireClaims s else s)

end Sys2Proof.Machine
end

