-- ==== Sys2Proof/Machine/Lanes.lean ====
section
/-! DEFINITION. The lane map: LOCK and ULCK (R76), TMPR (R79 to R82), the SPAR parameters STALE_LIMIT (R78) and BAY_CAPACITY (R77), and the
stale judgement of an interval event (R83). -/

namespace Sys2Proof.Machine

open Sys2Proof

/-- The lane with its lock set or cleared. -/
def Lane.withLock (locked : Bool) (lane : Lane) : Lane := { lane with locked := locked }

/-- LOCK and ULCK (R76). -/
def takeLaneLock (locked : Bool) (args : List Byte) (s : State) : Taken := match (oneByte? args).bind bay? with
  | none => refuse .badArgument s
  | some b => accept (.laneLock b locked s.lanes[b].lots.length) (setLane b (s.lanes[b].withLock locked) s)

/-- LOCK. -/
def takeLock (args : List Byte) (s : State) : Taken := takeLaneLock true args s

/-- ULCK. -/
def takeUlck (args : List Byte) (s : State) : Taken := takeLaneLock false args s

/-- The lane with a valid reading just taken, at age 0 (R80). -/
def Lane.withReading (t : Int) (lane : Lane) : Lane := { lane with reading := some ⟨t, 0⟩ }

/-- A temperature within the probe's working range (R80). -/
def validTemperature (t : Int) : Bool := -400 ≤ t && t ≤ 900

/-- One reading of a TMPR is taken (R80) or discarded with PROBE_FAULT for the hall and the supervisor (R81). BAY_STALE follows the
lanes' indications (R85). -/
def takeReading (b : Bay) (t : Int) (s : State) : State :=
  if validTemperature t then reportStale (setLane b (s.lanes[b].withReading t) s)
  else raiseFor (receives · .probeFault) .probeFault s

/-- TMPR (R79, R82): both bay numbers are checked before either reading is judged, the first reading before the second. -/
def takeTmpr (args : List Byte) (s : State) : Taken := match firstReading? args with
  | none => refuse .badArgument s
  | some (b₁, t₁) => match bay? b₁, secondReading? args with
    | none, _ => refuse .badArgument s
    | some b, none => accept (.readings 1 (!validTemperature t₁) none) (takeReading b t₁ s)
    | some b, some (b₂, t₂) => match bay? b₂ with
      | none => refuse .badArgument s
      | some b' =>
        accept (.readings 2 (!validTemperature t₁) (some !validTemperature t₂)) (takeReading b' t₂ (takeReading b t₁ s))

/-- SPAR of parameter 3 (R48, R78): index 0, value 1..60. -/
def takeStaleLimit (index value : Nat) (s : State) : Taken :=
  if index ≠ 0 || value < 1 || 60 < value then refuse .badArgument s
  else ⟨.ok, .parameter 3 index value, { s with staleLimit := value }⟩

/-- SPAR of parameter 4 (R48, R77): index a bay, value 1..6; refused BAY_NOT_EMPTY while the lane holds a lot. -/
def takeBayCapacity (index value : Nat) (s : State) : Taken := match bay? index with
  | none => refuse .badArgument s
  | some b =>
    if value < 1 || 6 < value then refuse .badArgument s
    else if s.lanes[b].lots ≠ [] then refuse .bayNotEmpty s
    else ⟨.ok, .parameter 4 index value, setLane b { s.lanes[b] with capacity := value } s⟩

/-- The lane is stale at an interval event: its reading is none, or L or more intervals old (R83, step 1). -/
def Lane.staleAt (limit : Nat) (lane : Lane) : Bool := match lane.reading with
  | none => true
  | some r => limit ≤ r.age

/-- The temperature the lane hands over at an interval event, `none` for stale (R83, step 2). -/
def Lane.temperature (limit : Nat) (lane : Lane) : Option Int :=
  if lane.staleAt limit then none else lane.reading.map (·.temperature)

/-- The lane after an interval event: its stale mark as judged, its reading one interval older (R83, steps 1 and 3). -/
def Lane.judged (limit : Nat) (lane : Lane) : Lane :=
  { lane with
    stale := lane.staleAt limit
    reading := lane.reading.map fun r => { r with age := satAdd Config.maxCount r.age 1 } }

/-- The lane map judges every lane (R83). -/
def judgeLanes (s : State) : State := { s with lanes := Vector.ofFn fun b => s.lanes[b].judged s.staleLimit }

end Sys2Proof.Machine
end

