-- ==== Sys2Proof/Machine/Pour.lean ====
section
/-! DEFINITION. Pour control: DSCH, ABDN and QLIN (R58 to R64), the pour window timers (R56, R57) and the plant-halt input (R66 to R68). -/

namespace Sys2Proof.Machine

open Sys2Proof

/-- DSCH from the mixer of line n (Table 4–4, R59). -/
def takeDsch (n : Line) (args : List Byte) (s : State) : Taken := match (oneByte? args).bind bay? with
  | none => refuse .badArgument s
  | some b => match s.lines[n] with
    | .idle => refuse .noDose s
    | .void _ => refuse .wrongState s
    | .dosed serial _ _ =>
      if s.lanes[b].locked then refuse .bayLocked s
      else if s.lanes[b].capacity ≤ s.lanes[b].lots.length then refuse .bayFull s
      else accept (.discharged serial b s.lanes[b].lots.length) (setLine n .idle (placeLot b serial s))

/-- ABDN from the mixer of line n (R61). -/
def takeAbdn (n : Line) (s : State) : Taken := match s.lines[n] with
  | .idle => refuse .noDose s
  | .dosed serial _ _ => accept (.abandoned serial .dosed) (setLine n .idle (freeLot serial s))
  | .void serial => accept (.abandoned serial .void) (setLine n .idle (freeLot serial s))

/-- The remaining seconds that QLIN reports: 0 when IDLE or VOID (Table 4–5). -/
def LineRecord.reportedSeconds : LineRecord → Nat
  | .dosed _ remaining _ => remaining
  | .idle | .void _ => 0

/-- QLIN from the mixer of line n (R64). -/
def takeQlin (n : Line) (s : State) : Taken :=
  accept (.line s.lines[n].reported s.permits[n] s.haltRegistered s.lines[n].serial s.lines[n].reportedSeconds) s

/-- A pour window expires (R57). -/
def expireWindow (n : Line) (s : State) : State := match s.lines[n] with
  | .dosed serial _ _ => voidDose n serial s
  | .idle | .void _ => s

/-- The window of the line is at its last second: the next second event expires it. -/
def windowEnds (n : Line) (s : State) : Bool := match s.lines[n] with
  | .dosed _ remaining _ => remaining ≤ 1
  | .idle | .void _ => false

/-- One line's timer takes a second event (R56): the remaining seconds fall by one, POUR_LATE at the warning point, expiry at 0. -/
def runWindow (n : Line) (s : State) : State := match s.lines[n] with
  | .dosed serial remaining warning =>
    if remaining ≤ 1 then expireWindow n s
    else if remaining - 1 = warning then
      raise (mixerStation n) .pourLate (setLine n (.dosed serial (remaining - 1) warning) s)
    else setLine n (.dosed serial (remaining - 1) warning) s
  | .idle | .void _ => s

/-- Pour control takes a second event: every running timer, each line on its own (R56). -/
def runWindows (s : State) : State := runWindow 3 (runWindow 2 (runWindow 1 (runWindow 0 s)))

/-- POUR_WINDOW_EXPIRY: the line's timer takes the second event that expires its window (R57). No window expires but in
service, from its last remaining second (log entries 4 and 5). DESIGN CHOICE: a window that a DOSQ opens between this row and its second
event is run down by that second event (log entry 25). -/
def execPourWindowExpiry (n : Line) (s : State) : Host.Outcome State Fault Refusal :=
  .next (if s.phase = .inService && windowEnds n s then expireWindow n s else s)

/-- PH_CHANGE: the raw level becomes the level named. In service the qualification timer times while it differs from the
registered level (R66); out of service the filter does not run. -/
def execPhChange (asserted : Bool) (s : State) : Host.Outcome State Fault Refusal :=
  .next { s with
    phRaw := asserted
    qualifying := if s.phase = .inService then asserted ≠ s.haltRegistered else s.qualifying }

/-- The filter may register a level: in service, the raw level has it, and the timer is timing towards it (R66). -/
def State.registers (s : State) (level : Bool) : Bool :=
  s.phase = .inService && s.qualifying && s.phRaw = level && s.haltRegistered ≠ level

/-- HALT_ASSERTION_REGISTERED (R67). -/
def execHaltAssertionRegistered (s : State) : Host.Outcome State Fault Refusal :=
  .next (if s.registers true then reportHalt (registerHalt true s) else s)

/-- HALT_RELEASE_REGISTERED (R68). -/
def execHaltReleaseRegistered (s : State) : Host.Outcome State Fault Refusal :=
  .next (if s.registers false then reportHalt (registerHalt false s) else s)

end Sys2Proof.Machine
end

