-- ==== Sys2Proof/Machine/Maturity.lean ====
section
/-! DEFINITION. The maturity engine: STIM (R93), the second event (R88), and the interval event with its credit and its decisions (R89, R95 to
R103). -/

namespace Sys2Proof.Machine

open Sys2Proof

/-- The divider and the second-in-minute count are set to zero (R90, R93). A second event of which a row has taken a part early is
begun again as well, and the rest of it never comes (DESIGN CHOICE: log entry 22). -/
def zeroTimeBase (s : State) : State := { s with divider := 0, secondInMinute := 0, intervalTaken := false }

/-- The plant minute is set and time becomes valid (R93). -/
def setPlantMinute (minute : Nat) (s : State) : State := { s with plantMinute := minute, timeValid := true }

/-- STIM (R93). -/
def takeStim (args : List Byte) (s : State) : Taken := match minute? args with
  | none => refuse .badArgument s
  | some minute => accept (.plantMinute minute) (reportTime (zeroTimeBase (setPlantMinute minute s)))

/-! ## The interval credit -/

/-- The credit of one interval at a temperature, for a datum and a cap (R96). -/
def credit (t datum cap : Int) : Nat := (min t cap - datum).toNat

/-- A credited lot after an interval at the temperature its lane hands over, `none` for a stale lane (R95, R96, R97). -/
def Lot.creditedAt (temperature : Option Int) (l : Lot) : Lot :=
  { l with
    age := satAdd Config.maxMinutes l.age 1
    maturity := match temperature with
      | some t => satAdd Config.maxMaturity l.maturity (credit t l.datum l.cap)
      | none => l.maturity
    hotMinutes := match temperature with
      | some t => if l.cap < t then satAdd Config.maxMinutes l.hotMinutes 1 else l.hotMinutes
      | none => l.hotMinutes }

/-- Any lot after the credit of an interval: a lot that stands in a lane in a credited state is credited (R95). -/
def Lot.afterCredit (temperatures : Bay → Option Int) (l : Lot) : Lot := match l.place with
  | some p => if l.state.credited then l.creditedAt (temperatures p.bay) else l
  | none => l

/-- Every lot in the lanes is credited, each with the temperature its lane hands over (R83, R95). The lanes are those before the
event's ageing of the readings. -/
def creditLots (temperatures : Bay → Option Int) (s : State) : State :=
  { s with lots := s.lots.map (Lot.afterCredit temperatures) }

/-! ## The decisions (section 6.5) -/

/-- The lot meets its cure criteria (R98). -/
def Lot.meetsCriteria (l : Lot) : Bool := l.effectiveTarget ≤ l.maturity && l.minAge ≤ l.age

/-- The lot's state after the CURED and OVERDUE decisions (R98, R99). -/
def Lot.decidedState (l : Lot) : LotState := match l.state with
  | .curing => if l.meetsCriteria then .cured else if l.maxAge ≤ l.age then .overdue else .curing
  | .overdue => if l.meetsCriteria then .cured else .overdue
  | other => other

/-- The lot is auto-held for heat at this interval (R100). -/
def Lot.autoHeld (l : Lot) : Bool := 0 < l.hotLimit && l.hotLimit ≤ l.hotMinutes && !l.hotHeld

/-- The effects of a hot auto-hold on a lot without a hold (R100): the hold with reason HOT, HOT_HOLD for the supervisor, the lot
out of the queue, or its claim revoked and the lot CURED. -/
def holdForHeat (l : Lot) (s : State) : State :=
  let s := changeLot l.serial (fun x => { x with
    hotHeld := true
    hold := some .hot
    state := if x.state = .claimed then .cured else x.state }) s
  let s := raise supervisorStation .hotHold (leaveQueue l.serial s)
  if l.state = .claimed then revokeClaim l.serial s else s

/-- The hot auto-hold step for a lot (R100): with a hold present only HOT_HELD is set. -/
def judgeHeat (l : Lot) (s : State) : State :=
  if l.autoHeld then match l.hold with
    | none => holdForHeat l s
    | some _ => changeLot l.serial (fun x => { x with hotHeld := true }) s
  else s

/-- The join step for a lot, after its other steps (R101). -/
def judgeJoin (serial : Nat) (s : State) : State := match s.lot? serial with
  | some l => if l.ready && l.atFront then joinTail serial s else s
  | none => s

/-- The lot's three steps, as the credit has left it, and its join (R98 to R101). -/
def judgeCredited (l : Lot) (s : State) : State :=
  judgeJoin l.serial (judgeHeat (l.withState l.decidedState) (changeLot l.serial (Lot.withState l.decidedState) s))

/-- A serial of a lane's list is judged: only credited lots are (section 6.5). -/
def judgeLot (serial : Nat) (s : State) : State := match s.lot? serial with
  | some l => if l.state.credited then judgeCredited l s else s
  | none => s

/-- Every lot in the lanes, in ascending bay order and from the front back (section 6.5). -/
def State.lotsInLaneOrder (s : State) : List Nat := s.lanes.toList.flatMap (·.lots)

/-- The decisions of an interval, lot after lot. -/
def judgeLots (serials : List Nat) (s : State) : State := serials.foldl (fun acc serial => judgeLot serial acc) s

/-- The plant minute rises by one (R91). -/
def raisePlantMinute (s : State) : State := { s with plantMinute := satAdd Config.maxPlantMinute s.plantMinute 1 }

/-- The reports of an interval event, as the state stands after all its decisions (R103, R85, R124). -/
def reportInterval (s : State) : State := reportQueue (reportStale (reportOverdue s))

/-- An interval event, in one taking (R89). -/
def takeInterval (s : State) : State :=
  let credited := creditLots (fun b => s.lanes[b].temperature s.staleLimit) (judgeLanes (raisePlantMinute s))
  reportInterval (judgeLots s.lotsInLaneOrder credited)

/-! ## The second event -/

/-- The coming second event is a sixtieth one: it brings the second-in-minute count back to 0 (R88). -/
def State.sixtiethNext (s : State) : Bool := 59 ≤ s.secondInMinute

/-- The divider returns to zero and the second-in-minute count rises by one, 0 following 59 (R88). -/
def countSecond (s : State) : State :=
  { s with
    divider := 0
    secondInMinute := if s.sixtiethNext then 0 else s.secondInMinute + 1
    intervalTaken := false }

/-- A second event (R88): pour control's timers, the claim timers and, at a sixtieth second event, the interval event, unless it
has been taken already (log entry 5). -/
def takeSecond (s : State) : State :=
  let run := runClaims (runWindows (countSecond s))
  if s.sixtiethNext && !s.intervalTaken then takeInterval run else run

/-- SECOND_EVENT: second events are taken in service alone (R90). -/
def execSecondEvent (s : State) : Host.Outcome State Fault Refusal :=
  .next (if s.phase = .inService then takeSecond s else s)

/-- INTERVAL_EVENT: the interval event of the coming sixtieth second event, taken before that event reaches the timers (R89, R105;
log entry 5). At any other time no interval event comes (log entry 4). A STIM between this row and its second event: log entry 22; a claim or a window begun there: log entry 25. -/
def execIntervalEvent (s : State) : Host.Outcome State Fault Refusal :=
  .next (if s.phase = .inService && s.sixtiethNext && !s.intervalTaken
    then { takeInterval s with intervalTaken := true } else s)

end Sys2Proof.Machine
end

