-- ==== Sys2Proof/Machine/Startup.lean ====
section
/-! DEFINITION. The retention and start-up controller: the beginning of a start (R166 step 1), the warm and cold actions (R169), the completion
of a start (R166 steps 4 and 5), and the events of the supplies, RSTIN and the self-test (R164, R165, R167). -/

namespace Sys2Proof.Machine

open Sys2Proof

/-- The commands of the start-up controller, RSTW and RSTC: answered OK with no results (R168). The start follows at the
completion of the answer. -/
def takeRestart (s : State) : Taken := accept .none s

/-- The part stops, as at the beginning of a start (R166 step 1, R164): READY and the permits off, the link off-bus with its
inboxes, LOST marks and slots empty and its transmitter free (R155), the pending sets and masks empty (R163; log entry 12).
DESIGN CHOICE: a registered reset drops the self-test result as a start does (log entry 24), and the qualification timer is left
as it stood until step 4 of the start makes it idle (log entry 21); what else is not retained and not named here, the transmit and
receive error counts (R155) and the registered halt level (R69) among it, holds what it held until a later step sets it (log
entry 26). -/
def stopPart (phase : Phase) (s : State) : State :=
  { s with
    phase := phase
    selfTestPassed := none
    ready := false
    permits := Vector.replicate 4 false
    link := .offBus
    inboxes := Vector.replicate 7 none
    lostMarks := Vector.replicate 7 false
    slots := Vector.replicate 32 .empty
    answers := Vector.replicate 7 none
    transmitter := none
    pendingKinds := Vector.replicate 7 0
    masks := Vector.replicate 7 0 }

/-- A start begins (R164, R166 step 1): its cause is decided and the straps are sampled (R141). -/
def beginStart (cause : StartCause) (s : State) : State :=
  { stopPart .starting s with decidedCause := cause, straps := s.strapPins }

/-- The cause of a start at power-on or reset release: cold if the retention-lost latch is set (R164). -/
def State.latchCause (s : State) : StartCause := if s.retentionLost then .cold else .warm

/-- The start takes the cold actions (R164). -/
def StartCause.isCold : StartCause → Bool
  | .cold | .supervisorCold => true
  | .warm | .supervisorWarm => false

/-! ## The warm actions, in the order of R169 -/

/-- A line after a warm start: DOSED becomes VOID, the timer stopped (R69). -/
def LineRecord.voided : LineRecord → LineRecord
  | .dosed serial _ _ => .void serial
  | .void serial => .void serial
  | .idle => .idle

/-- Warm action 1: every DOSED lot and its line become VOID (R69). -/
def voidDoses (s : State) : State :=
  { s with
    lines := Vector.ofFn fun n => s.lines[n].voided
    lots := s.lots.map fun l => if l.state = .dosed then l.withState .void else l }

/-- Warm action 2: every claim is returned to the queue head in claim order, and the claims list is emptied (R126). -/
def returnClaims (s : State) : State :=
  { s with
    queue := s.claims.map (·.serial) ++ s.queue
    claims := []
    lots := s.lots.map fun l => if l.state = .claimed then l.withState .cured else l }

/-- A lot that has lived through a warm start in a lane (R17). -/
def Lot.interruptedOnce (l : Lot) : Lot := { l with outages := satAdd Config.maxCount l.outages 1, interrupted := true }

/-- Warm action 3: the outage accounting, for every lot in CURING, OVERDUE, CURED or CLAIMED (R17). -/
def countOutages (s : State) : State :=
  { s with lots := s.lots.map fun l => if l.state.credited then l.interruptedOnce else l }

/-- A lane with its unretained fields emptied: the reading none, its age absent, the stale mark clear (R87). -/
def Lane.withoutReading (lane : Lane) : Lane := { lane with reading := none, stale := false }

/-- Warm action 4: the readings become none (R87), time becomes not valid with the plant minute kept (R106), and the pending sets and
masks are emptied (R163). -/
def emptyUnretained (s : State) : State :=
  { s with
    lanes := Vector.ofFn fun b => s.lanes[b].withoutReading
    timeValid := false
    pendingKinds := Vector.replicate 7 0
    masks := Vector.replicate 7 0 }

/-- The warm actions (R169). -/
def warmActions (s : State) : State := emptyUnretained (countOutages (returnClaims (voidDoses s)))

/-- The cold actions (R169): every retained block takes its cold-start value, and the retention-lost latch is cleared. -/
def coldActions (s : State) : State :=
  { s with
    lots := []
    nextSerial := 1
    recipes := Vector.replicate 8 Recipe.coldStart
    limits := Vector.replicate 4 LineLimits.coldStart
    lines := Vector.replicate 4 .idle
    lanes := Vector.replicate 16 Lane.coldStart
    staleLimit := Config.coldStaleLimit
    plantMinute := 0
    timeValid := false
    queue := []
    claims := []
    claimTimeout := Config.coldClaimTimeout
    releaseLog := []
    pendingKinds := Vector.replicate 7 0
    masks := Vector.replicate 7 0
    retentionLost := false }

/-- The actions of a start by its cause (R164). -/
def startActions (s : State) : State := if s.decidedCause.isCold then coldActions s else warmActions s

/-! ## The completion of a start -/

/-- Step 4 of R166: the registered halt level is taken from PH at once, the qualification timer idle (R69), and READY is
asserted. -/
def sampleHalt (s : State) : State :=
  { s with
    haltRegistered := s.phRaw
    qualifying := false
    ready := true
    permits := Vector.ofFn fun n => permitLevel s.lines[n] s.phRaw true }

/-- The DOSE_VOID reports of a warm start, for each line voided by it (R163). -/
def reportVoided (voided : Line → Bool) (s : State) : State := raiseFor (fun st => if h : st.val < 4 then voided ⟨st.val, h⟩ else false) .doseVoid s

/-- The reports of step 5 of R166: RESTARTED for all, the DOSE_VOIDs, and every condition as it stands (R163). -/
def reportStart (voided : Line → Bool) (s : State) : State :=
  reportRejected (reportOverdue (reportQueue (reportTime (reportStale (reportHalt (reportVoided voided
    (raiseFor (fun _ => true) .restarted s)))))))

/-- The end of step 5: the time base at zero (R90) and the link on-bus with its error counts at 0 (R155). The start is complete and its
cause stands (R164). -/
def enterService (s : State) : State :=
  { zeroTimeBase s with
    link := .onBus
    transmitErrors := 0
    receiveErrors := 0
    startCause := s.decidedCause
    selfTestPassed := some true
    phase := .inService }

/-- The lines that this start voids: those DOSED at a warm start (R69). -/
def State.voidedByStart (s : State) (n : Line) : Bool := !s.decidedCause.isCold && s.lines[n].isDosed

/-- Steps 3 to 5 of R166, in one taking (log entry 10). -/
def completeStart (s : State) : State := enterService (reportStart s.voidedByStart (sampleHalt (startActions s)))

/-! ## The events -/

/-- POWER_ON: main power rises and a start begins, its cause by the latch (R164). -/
def execPowerOn (straps : Straps) (s : State) : Host.Outcome State Fault Refusal :=
  .next (if s.phase = .unpowered then beginStart s.latchCause { s with strapPins := straps } else s)

/-- What no supply keeps is lost with main power (R165, Table 11–2). DESIGN CHOICE: until a start sets it, the registered halt level is
released whatever the level of PH, and the other unretained state has the value that the next start gives it (log entry 11). -/
def loseUnretained (s : State) : State :=
  { zeroTimeBase s with
    lanes := Vector.ofFn fun b => s.lanes[b].withoutReading
    timeValid := false
    haltRegistered := false
    qualifying := false
    transmitErrors := 0
    receiveErrors := 0 }

/-- MAIN_POWER_LOSS (R165). DESIGN CHOICE: the loss itself does not set the retention-lost latch, wherever VBAK stands (log entry 23). -/
def execMainPowerLoss (s : State) : Host.Outcome State Fault Refusal :=
  .next (if s.phase = .unpowered then s else loseUnretained (stopPart .unpowered s))

/-- VBAK_BELOW_RETENTION: with main power absent the retention-lost latch is set; with it present the monitor does not act (R165),
and the fall is not remembered for a later loss of main power (DESIGN CHOICE: log entry 23). -/
def execVbakBelowRetention (s : State) : Host.Outcome State Fault Refusal :=
  .next { s with retentionLost := if s.phase = .unpowered then true else s.retentionLost }

/-- RESET_ASSERTION_REGISTERED: the part is held stopped (R164). A start under way is abandoned, and FAULT ends (R167). -/
def execResetAssertionRegistered (s : State) : Host.Outcome State Fault Refusal :=
  .next (if s.phase = .unpowered then s else stopPart .heldReset s)

/-- RESET_RELEASE: the release of a registered RSTIN begins a start, its cause by the latch (R164). -/
def execResetRelease (straps : Straps) (s : State) : Host.Outcome State Fault Refusal :=
  .next (if s.phase = .heldReset then beginStart s.latchCause { s with strapPins := straps } else s)

/-- SELF_TEST: on a pass the start goes on to its actions and completes; on a failure the part is in FAULT (R167). -/
def execSelfTest (passed : Bool) (s : State) : Host.Outcome State Fault Refusal :=
  .next (if s.phase = .starting then
    if passed then completeStart s else { s with phase := .fault, selfTestPassed := some false }
  else s)

end Sys2Proof.Machine
end

