-- ==== Sys2Proof/Machine/Link.lean ====
section
/-! DEFINITION. The link interface: the taking of a command (R148, R150), the arrival of frames (R142, R149, R153), the transmit slots and the
arbiter (R151, R152), the composing of frames (R86, R125, R153, R159), and bus-off (R154). -/

namespace Sys2Proof.Machine

open Sys2Proof

/-! ## The taking of a command -/

/-- The line a mixer station controls: its index (Table 0–1). -/
def lineOf (st : Station) : Line := ⟨st.val % 4, by omega⟩

/-- SPAR (R48): the length, the parameter identifier, and then the owning block's checks. -/
def takeSpar (args : List Byte) (s : State) : Taken := match parameter? args with
  | none => refuse .badArgument s
  | some (parameter, index, value) => match parameter with
    | 0 => takeCementMax index value s
    | 1 => takeWaterMax index value s
    | 2 => takeAdditiveMax index value s
    | 3 => takeStaleLimit index value s
    | 4 => takeBayCapacity index value s
    | 5 => takeClaimTimeout index value s
    | _ => refuse .badArgument s

/-- The owning block takes a command that the link interface has passed (R148). -/
def deliver (c : CommandCode) (st : Station) (args : List Byte) (s : State) : Taken := match c with
  | .dosq => takeDosq (lineOf st) args s
  | .dsch => takeDsch (lineOf st) args s
  | .abdn => takeAbdn (lineOf st) s
  | .qlin => takeQlin (lineOf st) s
  | .tmpr => takeTmpr args s
  | .clnx => takeClnx args s
  | .cnfm => takeCnfm args s
  | .rtrn => takeRtrn args s
  | .hold => takeHold args s
  | .unhd => takeUnhd args s
  | .rjct => takeRjct args s
  | .clrb => takeClrb args s
  | .extd => takeExtd args s
  | .lock => takeLock args s
  | .ulck => takeUlck args s
  | .rcpw => takeRcpw args s
  | .rcpe => takeRcpe args s
  | .rcpd => takeRcpd args s
  | .rcpr => takeRcpr args s
  | .stim => takeStim args s
  | .spar => takeSpar args s
  | .rstw => takeRestart s
  | .rstc => takeRestart s
  | .qlot => takeQlot args s
  | .qrel => takeQrel args s
  | .atrd => takeAtrd st s
  | .atcl => takeAtcl st args s
  | .atmk => takeAtmk st args s

/-- The link interface judges a frame by its code and the station's role, and delivers it (R148). -/
def judgeFrame (st : Station) (data : List Byte) (s : State) : Taken := match data with
  | [] => refuse .unknownCommand s
  | code :: args => match commandOf? code with
    | none => refuse .unknownCommand s
    | some c => if c.permits (roleOf st) then deliver c st args s else refuse .notPermitted s

/-- The code an answer echoes: byte 0 of the frame, or 0 for an empty one (R148). -/
def echoOf (data : List Byte) : Byte := data.headD 0

/-- Steps 3 and 4 of R150: the answer goes to the station's answer slot with the LOST mark as it stands, the slot becomes pending,
and the mark is cleared. -/
def placeAnswer (st : Station) (code : Byte) (t : Taken) : State :=
  { t.state with
    answers := t.state.answers.set st (some ⟨code, t.status, t.state.lostMarks[st], t.results⟩)
    slots := t.state.slots.set (answerSlot st) t.state.slots[answerSlot st].mark
    lostMarks := t.state.lostMarks.set st false }

/-- An inbox takes a value. -/
def setInbox (st : Station) (frame : Option (List Byte)) (s : State) : State := { s with inboxes := s.inboxes.set st frame }

/-- The taking of a command frame (R150). -/
def takeCommand (st : Station) (data : List Byte) (s : State) : State :=
  placeAnswer st (echoOf data) (judgeFrame st data (setInbox st none s))

/-! ## Arrivals -/

/-- The arriving frame replaces the waiting one, and the LOST mark is set (R149). -/
def replaceWaiting (st : Station) (data : List Byte) (s : State) : State :=
  { s with
    inboxes := s.inboxes.set st (some data)
    lostMarks := s.lostMarks.set st true }

/-- A command frame from a station arrives (R149). Off-bus and bus-off it is not seen (R154). A frame holds at most eight
data bytes (Table 9–2). -/
def arrive (st : Station) (data : List Byte) (s : State) : State :=
  if s.link ≠ .onBus then s
  else match s.inboxes[st] with
    | some _ => replaceWaiting st (data.take Config.frameBytes) s
    | none =>
      if s.slots[answerSlot st] = .empty then takeCommand st (data.take Config.frameBytes) s
      else setInbox st (some (data.take Config.frameBytes)) s

/-- The arrival of a command's frame with the bytes after its code. -/
def arriveCommand (c : CommandCode) (st : Station) (args : List Byte) (s : State) : State := arrive st (c.byte :: args) s

/-- The arrival of a SPAR frame with the bytes after its parameter identifier. -/
def arriveParameter (parameter : Byte) (st : Station) (args : List Byte) (s : State) : State :=
  arriveCommand .spar st (parameter :: args) s

/-- A remote request for standing frame k (R153). Off-bus and bus-off it is not seen (R154). -/
def requestStanding (k : StandingNo) (s : State) : State := if s.link ≠ .onBus then s else markSlot (standingSlot k) s

/-- What the part makes of a received frame (R142). -/
inductive Received where
  | command (st : Station)
  | remoteRequest (k : StandingNo)
  | ignored
deriving DecidableEq, Repr

/-- The two kinds of frame that the part acts on, over its identifier base; every other frame is ignored (R142). -/
def classify (base : Nat) (f : RxFrame) : Received :=
  if f.busError || f.extended then .ignored
  else if f.remote then
    if h : base + 0x30 ≤ f.ident ∧ f.ident < base + 0x30 + 18 then .remoteRequest ⟨f.ident - (base + 0x30), by omega⟩
    else .ignored
  else if h : base ≤ f.ident ∧ f.ident < base + 7 then .command ⟨f.ident - base, by omega⟩
  else .ignored

/-- A frame reaches the part from the bus (R142). -/
def receiveFrame (f : RxFrame) (s : State) : State := match classify (identBase s.straps) f with
  | .command st => arrive st f.data s
  | .remoteRequest k => requestStanding k s
  | .ignored => s

/-! ## Composing -/

/-- The notice to a station (R159). -/
def composeNotice (st : Station) (s : State) : TxFrame :=
  .notice st (s.pendingKinds[st] &&& ~~~ s.masks[st]) s.pendingKinds[st] s.startCause

/-- STATUS (Table 9–8). -/
def composeStatus (s : State) : TxFrame :=
  .status s.startCause s.timeValid s.haltRegistered s.liveCount s.queue.length s.claims.length s.releaseLog.length

/-- QUEUE_HEAD (R125). -/
def composeQueueHead (s : State) : TxFrame :=
  .queueHead s.queue.head? (s.queue.head?.map fun serial => match s.lot? serial with
    | some l => l.bay
    | none => 0) s.queue.length

/-- LANE k (R86). -/
def composeLane (b : Bay) (s : State) : TxFrame :=
  .lane b s.lanes[b].locked s.lanes[b].staleIndication s.lanes[b].capacity s.lanes[b].lots.length
    (s.lanes[b].reading.map (·.temperature)) s.lanes[b].lots.head?

/-- The answer in a slot that holds none: no slot is ever pending without contents (log entry 14). -/
def noAnswer : Answer := ⟨0, .ok, false, .none⟩

/-- The station whose answer a slot carries (Table 9–12). -/
def answerStation? (i : SlotNo) : Option Station := if h : i.val < 7 then some ⟨i.val, h⟩ else none

/-- The frame of a slot: an answer's bytes were fixed at its taking (R150), every other frame is composed from its owners' state as
it stands (R153). -/
def compose (i : SlotNo) (s : State) : TxFrame := match answerStation? i, noticeStation? i with
  | some st, _ => .answer st (s.answers[st].getD noAnswer)
  | none, some st => composeNotice st s
  | none, none =>
    if i.val = 14 then composeStatus s
    else if i.val = 15 then composeQueueHead s
    else composeLane ⟨(i.val - 16) % 16, by omega⟩ s

/-! ## The arbiter -/

/-- The slot numbers, lowest first. -/
def slotNumbers : List SlotNo := List.ofFn (fun i : SlotNo => i)

/-- The lowest-numbered pending slot (R152). -/
def State.lowestPending (s : State) : Option SlotNo := slotNumbers.find? fun i => s.slots[i] = .pending

/-- The arbiter starts an attempt on a slot, its frame composed now (R152, R153). -/
def startAttempt (i : SlotNo) (s : State) : State :=
  { s with
    slots := s.slots.set i s.slots[i].start
    transmitter := some ⟨i, compose i s⟩ }

/-- The attempt ends as failed: its slot returns to pending and the transmitter becomes free (R152). -/
def failAttempt (s : State) : State := match s.transmitter with
  | some a => { s with slots := s.slots.set a.slot s.slots[a.slot].fail, transmitter := none }
  | none => s

/-- The attempt's slot moves on and the transmitter becomes free (R152); the error counts fall as the bus's fault confinement has it
(log entry 6), and the straps stand as the event names them, for the start that it may begin (log entry 8). -/
def endAttempt (i : SlotNo) (fall : ErrorFall) (straps : Straps) (s : State) : State :=
  { s with
    strapPins := straps
    slots := s.slots.set i s.slots[i].complete
    transmitter := none
    transmitErrors := s.transmitErrors - fall.transmit
    receiveErrors := s.receiveErrors - fall.receive }

/-- The start that follows an answer: an RSTW or RSTC answered OK to the supervisor (R168). -/
def restartAfter (st : Station) (a : Option Answer) : Option StartCause := match a with
  | some a =>
    if st = supervisorStation ∧ a.status = .ok then
      if a.code = CommandCode.rstw.byte then some .supervisorWarm
      else if a.code = CommandCode.rstc.byte then some .supervisorCold
      else none
    else none
  | none => none

/-- An answer's contents leave the part with the frame. -/
def clearAnswer (st : Station) (s : State) : State := { s with answers := s.answers.set st none }

/-- The command waiting in a station's inbox, if any, is taken (R150). -/
def takeWaiting (st : Station) (s : State) : State := match s.inboxes[st] with
  | some data => takeCommand st data s
  | none => s

/-- The completion of an answer: the supervisor's restart begins (R168), or the waiting command is taken (R150). -/
def answerSent (st : Station) (s : State) : State := match restartAfter st s.answers[st] with
  | some cause => beginStart cause s
  | none => takeWaiting st (clearAnswer st s)

/-- The completion of an attempt (R152). -/
def completeAttempt (fall : ErrorFall) (straps : Straps) (s : State) : State := match s.transmitter with
  | some a => match answerStation? a.slot with
    | some st => answerSent st (endAttempt a.slot fall straps s)
    | none => endAttempt a.slot fall straps s
  | none => s

/-- A bus error: the error counts rise, the attempt under way fails, and past 255 transmit errors the interface is bus-off (R154). -/
def sufferBusError (tecRise recRise : Nat) (s : State) : State :=
  let s := failAttempt s
  { s with
    transmitErrors := s.transmitErrors + tecRise
    receiveErrors := s.receiveErrors + recRise
    link := if Config.busOffLimit < s.transmitErrors + tecRise then .busOff else s.link }

/-! ## The events -/

/-- UNKNOWN_COMMAND: the arrival of a frame that is empty or has an unknown code (R148). -/
def execUnknownCommand (st : Station) (data : List Byte) (s : State) : Host.Outcome State Fault Refusal := .next (arrive st data s)

/-- COMMAND_FRAME_ARRIVAL (R149). -/
def execCommandFrameArrival (st : Station) (data : List Byte) (s : State) : Host.Outcome State Fault Refusal := .next (arrive st data s)

/-- REMOTE_REQUEST (R153). -/
def execRemoteRequest (k : StandingNo) (s : State) : Host.Outcome State Fault Refusal := .next (requestStanding k s)

/-- IGNORED_FRAME: a frame on the bus. One that the part ignores changes nothing (R142); a frame that is a command or a remote request
after all, by the identifier base in force, acts as one. -/
def execIgnoredFrame (f : RxFrame) (s : State) : Host.Outcome State Fault Refusal := .next (receiveFrame f s)

/-- ATTEMPT_START: on-bus, with the transmitter free, the lowest pending slot is sent (R152). -/
def execAttemptStart (s : State) : Host.Outcome State Fault Refusal :=
  .next (if s.link = .onBus && s.transmitter.isNone then match s.lowestPending with
    | some i => startAttempt i s
    | none => s
  else s)

/-- ATTEMPT_COMPLETION (R152). -/
def execAttemptCompletion (fall : ErrorFall) (straps : Straps) (s : State) : Host.Outcome State Fault Refusal :=
  .next (if s.link = .onBus then completeAttempt fall straps s else s)

/-- ARBITRATION_LOSS (R152). -/
def execArbitrationLoss (s : State) : Host.Outcome State Fault Refusal := .next (if s.link = .onBus then failAttempt s else s)

/-- BUS_ERROR (R152, R154). -/
def execBusError (tecRise recRise : Nat) (s : State) : Host.Outcome State Fault Refusal :=
  .next (if s.link = .onBus then sufferBusError tecRise recRise s else s)

/-- BUS_OFF_RECOVERY (R154). -/
def execBusOffRecovery (s : State) : Host.Outcome State Fault Refusal :=
  .next (if s.link = .busOff then { s with link := .onBus, transmitErrors := 0, receiveErrors := 0 } else s)

end Sys2Proof.Machine
end

