-- ==== Sys2Proof/Machine/Commands.lean ====
section
/-! DEFINITION. The meaning of each station command: the arrival of its frame (R149), which takes the command at once, stores it or
replaces a waiting one. What its taking does stands with its owner, in the `take` definition that `deliver` calls (log entry 3). -/

namespace Sys2Proof.Machine

open Sys2Proof

/-- QLOT (R19, R20): `takeQlot`. -/
def execQlot (st : Station) (args : List Byte) (s : State) : Host.Outcome State Fault Refusal :=
  .next (arriveCommand .qlot st args s)

/-- RCPW (R23): `takeRcpw`. -/
def execRcpw (st : Station) (args : List Byte) (s : State) : Host.Outcome State Fault Refusal :=
  .next (arriveCommand .rcpw st args s)

/-- RCPE (R25): `takeRcpe`. -/
def execRcpe (st : Station) (args : List Byte) (s : State) : Host.Outcome State Fault Refusal :=
  .next (arriveCommand .rcpe st args s)

/-- RCPD (R28): `takeRcpd`. -/
def execRcpd (st : Station) (args : List Byte) (s : State) : Host.Outcome State Fault Refusal :=
  .next (arriveCommand .rcpd st args s)

/-- RCPR (R29): `takeRcpr`. -/
def execRcpr (st : Station) (args : List Byte) (s : State) : Host.Outcome State Fault Refusal :=
  .next (arriveCommand .rcpr st args s)

/-- DOSQ (R36): `takeDosq`. -/
def execDosq (st : Station) (args : List Byte) (s : State) : Host.Outcome State Fault Refusal :=
  .next (arriveCommand .dosq st args s)

/-- DSCH (R58, R59): `takeDsch`. -/
def execDsch (st : Station) (args : List Byte) (s : State) : Host.Outcome State Fault Refusal :=
  .next (arriveCommand .dsch st args s)

/-- ABDN (R61): `takeAbdn`. -/
def execAbdn (st : Station) (args : List Byte) (s : State) : Host.Outcome State Fault Refusal :=
  .next (arriveCommand .abdn st args s)

/-- QLIN (R64): `takeQlin`. -/
def execQlin (st : Station) (args : List Byte) (s : State) : Host.Outcome State Fault Refusal :=
  .next (arriveCommand .qlin st args s)

/-- TMPR (R79): `takeTmpr`. -/
def execTmpr (st : Station) (args : List Byte) (s : State) : Host.Outcome State Fault Refusal :=
  .next (arriveCommand .tmpr st args s)

/-- LOCK (R76): `takeLock`. -/
def execLock (st : Station) (args : List Byte) (s : State) : Host.Outcome State Fault Refusal :=
  .next (arriveCommand .lock st args s)

/-- ULCK (R76): `takeUlck`. -/
def execUlck (st : Station) (args : List Byte) (s : State) : Host.Outcome State Fault Refusal :=
  .next (arriveCommand .ulck st args s)

/-- STIM (R93): `takeStim`. -/
def execStim (st : Station) (args : List Byte) (s : State) : Host.Outcome State Fault Refusal :=
  .next (arriveCommand .stim st args s)

/-- CLNX (R112, R113): `takeClnx`. -/
def execClnx (st : Station) (args : List Byte) (s : State) : Host.Outcome State Fault Refusal :=
  .next (arriveCommand .clnx st args s)

/-- CNFM (R115, R116): `takeCnfm`. -/
def execCnfm (st : Station) (args : List Byte) (s : State) : Host.Outcome State Fault Refusal :=
  .next (arriveCommand .cnfm st args s)

/-- RTRN (R117): `takeRtrn`. -/
def execRtrn (st : Station) (args : List Byte) (s : State) : Host.Outcome State Fault Refusal :=
  .next (arriveCommand .rtrn st args s)

/-- QREL (R123): `takeQrel`. -/
def execQrel (st : Station) (args : List Byte) (s : State) : Host.Outcome State Fault Refusal :=
  .next (arriveCommand .qrel st args s)

/-- HOLD (R128, R129): `takeHold`. -/
def execHold (st : Station) (args : List Byte) (s : State) : Host.Outcome State Fault Refusal :=
  .next (arriveCommand .hold st args s)

/-- UNHD (R130): `takeUnhd`. -/
def execUnhd (st : Station) (args : List Byte) (s : State) : Host.Outcome State Fault Refusal :=
  .next (arriveCommand .unhd st args s)

/-- RJCT (R132, R133): `takeRjct`. -/
def execRjct (st : Station) (args : List Byte) (s : State) : Host.Outcome State Fault Refusal :=
  .next (arriveCommand .rjct st args s)

/-- CLRB (R134): `takeClrb`. -/
def execClrb (st : Station) (args : List Byte) (s : State) : Host.Outcome State Fault Refusal :=
  .next (arriveCommand .clrb st args s)

/-- EXTD (R135): `takeExtd`. -/
def execExtd (st : Station) (args : List Byte) (s : State) : Host.Outcome State Fault Refusal :=
  .next (arriveCommand .extd st args s)

/-- CEMENT_MAX, SPAR of parameter 0 (R49): `takeCementMax`. -/
def execCementMax (st : Station) (args : List Byte) (s : State) : Host.Outcome State Fault Refusal :=
  .next (arriveParameter 0 st args s)

/-- WATER_MAX, SPAR of parameter 1 (R49): `takeWaterMax`. -/
def execWaterMax (st : Station) (args : List Byte) (s : State) : Host.Outcome State Fault Refusal :=
  .next (arriveParameter 1 st args s)

/-- ADDITIVE_MAX, SPAR of parameter 2 (R49): `takeAdditiveMax`. -/
def execAdditiveMax (st : Station) (args : List Byte) (s : State) : Host.Outcome State Fault Refusal :=
  .next (arriveParameter 2 st args s)

/-- STALE_LIMIT, SPAR of parameter 3 (R78): `takeStaleLimit`. -/
def execStaleLimit (st : Station) (args : List Byte) (s : State) : Host.Outcome State Fault Refusal :=
  .next (arriveParameter 3 st args s)

/-- BAY_CAPACITY, SPAR of parameter 4 (R77): `takeBayCapacity`. -/
def execBayCapacity (st : Station) (args : List Byte) (s : State) : Host.Outcome State Fault Refusal :=
  .next (arriveParameter 4 st args s)

/-- CLAIM_TIMEOUT, SPAR of parameter 5 (R120): `takeClaimTimeout`. -/
def execClaimTimeout (st : Station) (args : List Byte) (s : State) : Host.Outcome State Fault Refusal :=
  .next (arriveParameter 5 st args s)

/-- ATRD (R160): `takeAtrd`. -/
def execAtrd (st : Station) (args : List Byte) (s : State) : Host.Outcome State Fault Refusal :=
  .next (arriveCommand .atrd st args s)

/-- ATCL (R161): `takeAtcl`. -/
def execAtcl (st : Station) (args : List Byte) (s : State) : Host.Outcome State Fault Refusal :=
  .next (arriveCommand .atcl st args s)

/-- ATMK (R162): `takeAtmk`. -/
def execAtmk (st : Station) (args : List Byte) (s : State) : Host.Outcome State Fault Refusal :=
  .next (arriveCommand .atmk st args s)

/-- RSTW (R168): `takeRestart`. -/
def execRstw (st : Station) (args : List Byte) (s : State) : Host.Outcome State Fault Refusal :=
  .next (arriveCommand .rstw st args s)

/-- RSTC (R168): `takeRestart`. -/
def execRstc (st : Station) (args : List Byte) (s : State) : Host.Outcome State Fault Refusal :=
  .next (arriveCommand .rstc st args s)

end Sys2Proof.Machine
end

