-- ==== Sys2Proof/Machine/Dispatch.lean ====
section
/-! DEFINITION. `exec`: one arm for each row of spec/opcode_table.json, each one call of the row's meaning. -/

namespace Sys2Proof.Machine

open Sys2Proof

def exec (i : Instr) (s : State) : Host.Outcome State Fault Refusal :=
  match i with
  | .qlot st args => Sys2Proof.Machine.execQlot st args s
  | .rcpw st args => Sys2Proof.Machine.execRcpw st args s
  | .rcpe st args => Sys2Proof.Machine.execRcpe st args s
  | .rcpd st args => Sys2Proof.Machine.execRcpd st args s
  | .rcpr st args => Sys2Proof.Machine.execRcpr st args s
  | .dosq st args => Sys2Proof.Machine.execDosq st args s
  | .dsch st args => Sys2Proof.Machine.execDsch st args s
  | .abdn st args => Sys2Proof.Machine.execAbdn st args s
  | .qlin st args => Sys2Proof.Machine.execQlin st args s
  | .tmpr st args => Sys2Proof.Machine.execTmpr st args s
  | .lock st args => Sys2Proof.Machine.execLock st args s
  | .ulck st args => Sys2Proof.Machine.execUlck st args s
  | .stim st args => Sys2Proof.Machine.execStim st args s
  | .clnx st args => Sys2Proof.Machine.execClnx st args s
  | .cnfm st args => Sys2Proof.Machine.execCnfm st args s
  | .rtrn st args => Sys2Proof.Machine.execRtrn st args s
  | .qrel st args => Sys2Proof.Machine.execQrel st args s
  | .hold st args => Sys2Proof.Machine.execHold st args s
  | .unhd st args => Sys2Proof.Machine.execUnhd st args s
  | .rjct st args => Sys2Proof.Machine.execRjct st args s
  | .clrb st args => Sys2Proof.Machine.execClrb st args s
  | .extd st args => Sys2Proof.Machine.execExtd st args s
  | .cementMax st args => Sys2Proof.Machine.execCementMax st args s
  | .waterMax st args => Sys2Proof.Machine.execWaterMax st args s
  | .additiveMax st args => Sys2Proof.Machine.execAdditiveMax st args s
  | .staleLimit st args => Sys2Proof.Machine.execStaleLimit st args s
  | .bayCapacity st args => Sys2Proof.Machine.execBayCapacity st args s
  | .claimTimeout st args => Sys2Proof.Machine.execClaimTimeout st args s
  | .atrd st args => Sys2Proof.Machine.execAtrd st args s
  | .atcl st args => Sys2Proof.Machine.execAtcl st args s
  | .atmk st args => Sys2Proof.Machine.execAtmk st args s
  | .rstw st args => Sys2Proof.Machine.execRstw st args s
  | .rstc st args => Sys2Proof.Machine.execRstc st args s
  | .unknownCommand st data => Sys2Proof.Machine.execUnknownCommand st data s
  | .commandFrameArrival st data => Sys2Proof.Machine.execCommandFrameArrival st data s
  | .remoteRequest k => Sys2Proof.Machine.execRemoteRequest k s
  | .ignoredFrame f => Sys2Proof.Machine.execIgnoredFrame f s
  | .attemptStart => Sys2Proof.Machine.execAttemptStart s
  | .attemptCompletion fall straps => Sys2Proof.Machine.execAttemptCompletion fall straps s
  | .arbitrationLoss => Sys2Proof.Machine.execArbitrationLoss s
  | .busError tecRise recRise => Sys2Proof.Machine.execBusError tecRise recRise s
  | .busOffRecovery => Sys2Proof.Machine.execBusOffRecovery s
  | .secondEvent => Sys2Proof.Machine.execSecondEvent s
  | .pourWindowExpiry n => Sys2Proof.Machine.execPourWindowExpiry n s
  | .claimExpiry => Sys2Proof.Machine.execClaimExpiry s
  | .intervalEvent => Sys2Proof.Machine.execIntervalEvent s
  | .phChange asserted => Sys2Proof.Machine.execPhChange asserted s
  | .haltAssertionRegistered => Sys2Proof.Machine.execHaltAssertionRegistered s
  | .haltReleaseRegistered => Sys2Proof.Machine.execHaltReleaseRegistered s
  | .powerOn straps => Sys2Proof.Machine.execPowerOn straps s
  | .mainPowerLoss => Sys2Proof.Machine.execMainPowerLoss s
  | .vbakBelowRetention => Sys2Proof.Machine.execVbakBelowRetention s
  | .resetAssertionRegistered => Sys2Proof.Machine.execResetAssertionRegistered s
  | .resetRelease straps => Sys2Proof.Machine.execResetRelease straps s
  | .selfTest passed => Sys2Proof.Machine.execSelfTest passed s

end Sys2Proof.Machine
end

