-- ==== Sys2Proof/WellFormed.lean ====
section
/-! DEFINITION. Which terms of `Instr` stand for something the bus can carry (Table 9–2, R142, R144, R148).
The machine itself gives every term a meaning: a frame's bytes beyond the eighth are no part of any frame. -/

namespace Sys2Proof

/-- The command codes of Table 9–4 (R144). -/
def commandBytes : List Byte :=
  [0x10, 0x11, 0x12, 0x13, 0x20, 0x30, 0x31, 0x32, 0x40, 0x41, 0x42, 0x43, 0x44, 0x45, 0x46, 0x48, 0x49, 0x4A, 0x4B,
   0x4C, 0x4D, 0x4E, 0x4F, 0x60, 0x61, 0x70, 0x71, 0x72]

/-- The bytes after a command code fit one frame. -/
def argsFit (args : List Byte) : Bool := args.length ≤ Config.frameBytes - 1

/-- The bytes after SPAR's code and parameter identifier fit one frame. -/
def parameterArgsFit (args : List Byte) : Bool := args.length ≤ Config.frameBytes - 2

/-- The bytes of a whole frame fit. -/
def dataFits (data : List Byte) : Bool := data.length ≤ Config.frameBytes

/-- No command code stands in byte 0 (R148). -/
def codeUnknown (data : List Byte) : Bool :=
  match data with
  | [] => true
  | c :: _ => !commandBytes.contains c

/-- The identifier has 11 bits, or 29 in the extended format. -/
def identFits (f : RxFrame) : Bool := f.ident < if f.extended then 2 ^ 29 else 2 ^ 11

/-- A remote frame carries no data bytes. -/
def remoteEmpty (f : RxFrame) : Bool := !f.remote || f.data.isEmpty

/-- The command or event is one that the bus, the lines or the time base can present. -/
def Instr.wellFormed : Instr → Bool
  | .qlot _ a | .rcpw _ a | .rcpe _ a | .rcpd _ a | .rcpr _ a | .dosq _ a | .dsch _ a | .abdn _ a | .qlin _ a
  | .tmpr _ a | .lock _ a | .ulck _ a | .stim _ a | .clnx _ a | .cnfm _ a | .rtrn _ a | .qrel _ a | .hold _ a
  | .unhd _ a | .rjct _ a | .clrb _ a | .extd _ a | .atrd _ a | .atcl _ a | .atmk _ a | .rstw _ a | .rstc _ a =>
    argsFit a
  | .cementMax _ a | .waterMax _ a | .additiveMax _ a | .staleLimit _ a | .bayCapacity _ a | .claimTimeout _ a =>
    parameterArgsFit a
  | .unknownCommand _ d => dataFits d && codeUnknown d
  | .commandFrameArrival _ d => dataFits d
  | .ignoredFrame f => identFits f && dataFits f.data && remoteEmpty f
  | .remoteRequest _ | .attemptStart | .attemptCompletion _ _ | .arbitrationLoss | .busError _ _ | .busOffRecovery
  | .secondEvent | .pourWindowExpiry _ | .claimExpiry | .intervalEvent | .phChange _ | .haltAssertionRegistered
  | .haltReleaseRegistered | .powerOn _ | .mainPowerLoss | .vbakBelowRetention | .resetAssertionRegistered
  | .resetRelease _ | .selfTest _ => true

end Sys2Proof
end

