-- ==== Sys2Proof/Safety.lean ====
section
/-! DEFINITION. What a good state of the part is: the laws that the spec states of every state, in the terms the statements use, and the
vocabulary of the statements (a station that may be answered at once, the state after an answer). -/

namespace Sys2Proof.Machine

open Sys2Proof

/-! ## When a command is taken at once, and the state after its answer -/

/-- Station st's next command is taken at once: on-bus, its inbox and its answer slot empty (R149). -/
abbrev TakesAtOnce (st : Station) (s : State) : Prop :=
  s.link = .onBus ∧ s.inboxes[st] = none ∧ s.slots[answerSlot st] = .empty

/-- The state t with an answer placed for station st (R150): the code echoed, its LOST mark carried and cleared, its slot marked. -/
def answered (st : Station) (code : Byte) (status : Status) (results : Results) (t : State) : State :=
  { t with
    answers := t.answers.set st (some ⟨code, status, t.lostMarks[st], results⟩)
    slots := t.slots.set (answerSlot st) t.slots[answerSlot st].mark
    lostMarks := t.lostMarks.set st false }

/-- The codes that a station may send (Table 9–9). -/
def permittedCodes (st : Station) : List Byte :=
  [0x60, 0x70, 0x71, 0x72] ++
    (if st.val < 4 then [0x10, 0x11, 0x12, 0x13]
    else if st.val = 4 then [0x20]
    else if st.val = 5 then [0x30, 0x31, 0x32, 0x61]
    else [0x40, 0x41, 0x42, 0x43, 0x44, 0x45, 0x46, 0x48, 0x49, 0x4A, 0x4B, 0x4C, 0x4D, 0x4E, 0x4F, 0x61])

/-- The requirements of Table 2–5, in order. -/
def Recipe.conditions (r : Recipe) : List Bool :=
  [r.classLo ≤ r.classHi, r.moistLo ≤ r.moistHi, r.minAge < r.maxAge, r.pourWarning < r.pourWindow, r.datum < r.cap]

/-- R30: the recipe is enabled and meets all three conditions for the ash of a request. -/
def Recipe.Accepts (r : Recipe) (source chlorideClass moisture : Nat) : Prop :=
  r.enabled = true ∧ r.sources.getLsbD source = true ∧ (r.classLo ≤ chlorideClass ∧ chlorideClass ≤ r.classHi)
    ∧ (r.moistLo ≤ moisture ∧ moisture ≤ r.moistHi)

/-! ## The time base, lot by lot -/

/-- The line of a DOSED lot has one second left: the next second event voids it (R57). -/
def LineRecord.endsNext : LineRecord → Bool
  | .dosed _ remaining _ => remaining ≤ 1
  | .idle | .void _ => false

/-- A line's record after a second event (R56, R57). -/
def LineRecord.secondLater : LineRecord → LineRecord
  | .dosed serial remaining warning => if remaining ≤ 1 then .void serial else .dosed serial (remaining - 1) warning
  | other => other

/-- A line's record reaches its warning point at the next second event (R56). -/
def LineRecord.warnsNext : LineRecord → Bool
  | .dosed _ remaining warning => 0 < warning && remaining = warning + 1
  | .idle | .void _ => false

/-- A lot after a second event: VOID when its window ends (R57), CURED when its claim lapses (R114). -/
def Lot.secondLater (s : State) (l : Lot) : Lot :=
  { l with
    state := match l.state with
      | .dosed => if s.lines[l.line].endsNext then .void else .dosed
      | .claimed => if s.claims.any fun c => c.serial = l.serial && c.remaining ≤ 1 then .cured else .claimed
      | other => other }

/-- A kind has become pending for the station between s and t, and its mask does not hold it (R158). -/
def State.newsSince (t s : State) (st : Station) : Bool :=
  allKinds.any fun k => t.pendingKinds[st].has k && !s.pendingKinds[st].has k && !s.masks[st].has k

/-- The slots of t are those of s with the notice slots marked of the stations for which a kind has become pending (R158). -/
structure NoticesFollow (s t : State) : Prop where
  notices : ∀ st : Station, t.slots[noticeSlot st]
    = if t.newsSince s st = true then s.slots[noticeSlot st].mark else s.slots[noticeSlot st]
  otherSlots : ∀ i : SlotNo, (∀ st : Station, i ≠ noticeSlot st) → t.slots[i] = s.slots[i]

/-- The kinds that a second event raises: POUR_LATE and DOSE_VOID for a line's mixer, and for loadout CLAIM_EXPIRED, with QUEUE_READY
since a lapsed claim's lot is in the queue (R56, R57, R114, R124). -/
def State.raisedBySecond (s : State) (st : Station) : AttnKind → Bool
  | .pourLate => receives st .pourLate && s.lines[lineOf st].warnsNext
  | .doseVoid => receives st .doseVoid && s.lines[lineOf st].endsNext
  | .claimExpired | .queueReady => st = loadoutStation && s.claims.any (·.remaining ≤ 1)
  | .restarted | .haltActive | .claimRevoked | .bayStale | .probeFault | .overduePresent | .hotHold | .rejectedAtFront | .timeUnset =>
    false

/-- u is s after pour control and the dispatch unit have taken one second event (R56, R57, R114); the second-in-minute count is
not yet told. -/
structure TimersRun (s u : State) : Prop where
  lines : ∀ n : Line, u.lines[n] = s.lines[n].secondLater
  lots : u.lots = s.lots.map (Lot.secondLater s)
  claims : u.claims = (s.claims.filter (1 < ·.remaining)).map fun c => { c with remaining := c.remaining - 1 }
  queue : u.queue = (s.claims.filter (·.remaining ≤ 1)).map (·.serial) ++ s.queue
  permits : ∀ n : Line, u.permits[n] = (s.permits[n] && !s.lines[n].endsNext)
  kinds : ∀ (st : Station) (k : AttnKind), u.pendingKinds[st].has k = (s.pendingKinds[st].has k || s.raisedBySecond st k)
  notices : NoticesFollow s u
  others : u = { s with
    lines := u.lines, lots := u.lots, claims := u.claims, queue := u.queue, permits := u.permits
    pendingKinds := u.pendingKinds, slots := u.slots, divider := 0, intervalTaken := false }

/-- The temperature that a lane hands over at an interval event, if it is not stale (R83). -/
def State.handedTemperature (s : State) (b : Bay) : Option Int := match s.lanes[b].reading with
  | some r => if r.age < s.staleLimit then some r.temperature else none
  | none => none

/-- A credited lot with its age, maturity and hot minutes after the credit (R95, R96, R97). -/
def Lot.minuteOlder (t : Option Int) (l : Lot) : Lot := match t with
  | some t =>
    { l with
      age := min 65535 (l.age + 1)
      maturity := min 16777215 (l.maturity + (min t l.cap - l.datum).toNat)
      hotMinutes := if t > l.cap then min 65535 (l.hotMinutes + 1) else l.hotMinutes }
  | none => { l with age := min 65535 (l.age + 1) }

/-- The lot's state after the CURED and OVERDUE decisions (R98, R99). -/
def Lot.judged (l : Lot) : Lot :=
  if (l.state = .curing ∨ l.state = .overdue) ∧ l.effectiveTarget ≤ l.maturity ∧ l.minAge ≤ l.age then { l with state := .cured }
  else if l.state = .curing ∧ l.maxAge ≤ l.age then { l with state := .overdue }
  else l

/-- The lot's hot minutes bring it to a hot auto-hold (R100). -/
def Lot.overheats (l : Lot) : Bool := 0 < l.hotLimit && l.hotLimit ≤ l.hotMinutes && !l.hotHeld

/-- The lot after the hot auto-hold decision (R100). -/
def Lot.cooled (l : Lot) : Lot :=
  if l.overheats then match l.hold with
    | none => { l with hotHeld := true, hold := some .hot, state := if l.state = .claimed then .cured else l.state }
    | some _ => { l with hotHeld := true }
  else l

/-- A lot of state s credited and judged up to the decision on its heat (R95 to R99). -/
def Lot.intervalJudged (s : State) (l : Lot) : Lot := match l.state, l.place with
  | .curing, some p | .overdue, some p | .cured, some p | .claimed, some p => (l.minuteOlder (s.handedTemperature p.bay)).judged
  | _, _ => l

/-- The lot is auto-held at this interval while unheld (R100). -/
def Lot.hotHeldNow (s : State) (l : Lot) : Bool := match l.state with
  | .curing | .overdue | .cured | .claimed => (l.intervalJudged s).overheats && l.hold = none
  | .dosed | .void | .rejected => false

/-- A lot of state s after an interval event (R95 to R100). -/
def Lot.intervalLater (s : State) (l : Lot) : Lot := match l.state with
  | .curing | .overdue | .cured | .claimed => (l.intervalJudged s).cooled
  | .dosed | .void | .rejected => l

/-- The front lots of the lanes, in ascending bay order. -/
def State.fronts (s : State) : List Nat := s.lanes.toList.filterMap (·.lots.head?)

/-- The lots and the lanes after an interval event taken on s (R83, R91, R95 to R99). -/
structure IntervalCredited (s t : State) : Prop where
  plantMinute : t.plantMinute = min 4294967295 (s.plantMinute + 1)
  lanes : ∀ b : Bay, t.lanes[b] = { s.lanes[b] with
    stale := (s.handedTemperature b).isNone
    reading := s.lanes[b].reading.map fun r => { r with age := min 255 (r.age + 1) } }
  lots : t.lots = s.lots.map (Lot.intervalLater s)
  others : t = { s with
    plantMinute := t.plantMinute, lanes := t.lanes, lots := t.lots, queue := t.queue, claims := t.claims
    pendingKinds := t.pendingKinds, slots := t.slots }

/-- The queue, the claims and the attention kinds after an interval event taken on s (R100, R101, R103, R85, R124). -/
structure IntervalHandedOver (s t : State) : Prop where
  queue : t.queue = s.queue.filter (fun serial => !(s.lot? serial).any (Lot.hotHeldNow s))
    ++ s.fronts.filter fun serial => !s.queue.contains serial && (s.lot? serial).any fun l => (l.intervalLater s).ready
  claims : t.claims = s.claims.filter fun c => !(s.lot? c.serial).any (Lot.hotHeldNow s)
  kinds : ∀ (st : Station) (k : AttnKind), t.pendingKinds[st].has k = (if receives st k then match k with
    | .hotHold => s.pendingKinds[st].has .hotHold || s.lots.any (Lot.hotHeldNow s)
    | .claimRevoked => s.pendingKinds[st].has .claimRevoked || s.lots.any fun l => l.state = .claimed && l.hotHeldNow s
    | .overduePresent => t.lots.any (·.state = .overdue)
    | .bayStale => t.anyStale
    | .queueReady => !t.queue.isEmpty
    | .restarted | .haltActive | .pourLate | .doseVoid | .claimExpired | .probeFault | .rejectedAtFront | .timeUnset =>
      s.pendingKinds[st].has k
    else s.pendingKinds[st].has k)
  notices : NoticesFollow s t

/-! ## Laws of one block -/

/-- R65: each feed permit is asserted exactly when its line is DOSED, the halt is not registered and READY is asserted. -/
def PermitLaw (s : State) : Prop := ∀ n : Line, s.permits[n] = permitLevel s.lines[n] s.haltRegistered s.ready

/-- R21, R27: every recipe field lies in its range, and an enabled recipe is consistent. -/
def RecipeLaw (s : State) : Prop :=
  ∀ k : RecipeNo, (∀ f : RecipeField, f.admits (s.recipes[k].get f) = true)
    ∧ (s.recipes[k].enabled = true → s.recipes[k].failedCondition = 0)

/-- R47, R48, R6: every parameter and the next-serial counter lie in their ranges. -/
structure ParameterLaw (s : State) : Prop where
  cement : ∀ n : Line, 50 ≤ s.limits[n].cementMax ∧ s.limits[n].cementMax ≤ 4000
  water : ∀ n : Line, 50 ≤ s.limits[n].waterMax ∧ s.limits[n].waterMax ≤ 4000
  additive : ∀ n : Line, s.limits[n].additiveMax ≤ 400
  staleLimit : 1 ≤ s.staleLimit ∧ s.staleLimit ≤ 60
  capacity : ∀ b : Bay, 1 ≤ s.lanes[b].capacity ∧ s.lanes[b].capacity ≤ 6
  claimTimeout : 120 ≤ s.claimTimeout ∧ s.claimTimeout ≤ 3600
  nextSerial : 1 ≤ s.nextSerial ∧ s.nextSerial ≤ Config.maxSerial

/-- R88, R91: the counts of the time base and the plant minute lie in their ranges. -/
structure TimeLaw (s : State) : Prop where
  second : s.secondInMinute ≤ 59
  minute : s.plantMinute ≤ Config.maxPlantMinute

/-- R70, R83: a lane's reading is one the part takes, and its age does not pass 255. -/
def ReadingLaw (s : State) : Prop :=
  ∀ b : Bay, ∀ r ∈ s.lanes[b].reading, validTemperature r.temperature = true ∧ r.age ≤ Config.maxCount

/-- R149 to R154: the inboxes, slots, answers and the transmitter agree. -/
structure LinkLaw (s : State) : Prop where
  inService : s.link = .offBus ↔ s.phase ≠ .inService
  answerNotMarkedAgain : ∀ st : Station, s.slots[answerSlot st] ≠ .sendingMarked
  answerHeld : ∀ st : Station, s.answers[st] = none ↔ s.slots[answerSlot st] = .empty
  waitsForAnswer : ∀ st : Station, s.inboxes[st] ≠ none → s.slots[answerSlot st] ≠ .empty
  lostWhileWaiting : ∀ st : Station, s.lostMarks[st] = true → s.inboxes[st] ≠ none
  oneAttempt : ∀ i : SlotNo, (s.slots[i] = .sending ∨ s.slots[i] = .sendingMarked) ↔ s.transmitter.map (·.slot) = some i
  sendsOnBus : s.transmitter ≠ none → s.link = .onBus
  emptyOffBus : s.link = .offBus → ∀ i : SlotNo, s.slots[i] = .empty

/-- R164 to R167: READY is asserted exactly in service, FAULT is the state of a failed self-test, and the retention-lost latch is clear
in service and in every start that takes the warm actions. -/
structure PhaseLaw (s : State) : Prop where
  ready : s.ready = true ↔ s.phase = .inService
  fault : s.phase = .fault ↔ s.selfTestPassed = some false
  latchInService : s.phase = .inService → s.retentionLost = false
  latchInStart : s.phase = .starting → s.decidedCause.isCold = false → s.retentionLost = false

/-- R156: a pending set holds only kinds its station receives, and a mask holds only kinds its station receives and never RESTARTED (R162). -/
structure AttentionLaw (s : State) : Prop where
  received : ∀ (st : Station) (k : AttnKind), s.pendingKinds[st].has k = true → receives st k = true
  masked : ∀ (st : Station) (k : AttnKind), s.masks[st].has k = true → receives st k = true ∧ k ≠ .restarted

/-- The value of a condition kind (Table 10–1); false for a latched kind. -/
def State.condition (s : State) : AttnKind → Bool
  | .haltActive => s.haltRegistered
  | .queueReady => s.queueHolds
  | .bayStale => s.anyStale
  | .overduePresent => s.anyOverdue
  | .rejectedAtFront => s.anyRejectedAtFront
  | .timeUnset => !s.timeValid
  | .restarted | .pourLate | .doseVoid | .claimExpired | .claimRevoked | .probeFault | .hotHold => false

/-- R157: in service a condition kind is pending for a station that receives it exactly while the condition is true. -/
def ConditionLaw (s : State) : Prop :=
  s.phase = .inService → ∀ (st : Station) (k : AttnKind), k.isCondition = true → receives st k = true →
    s.pendingKinds[st].has k = s.condition k

/-! ## Laws of the hall -/

/-- R1, R4, R6: at most 64 lots are live, their serials lie in range and differ, and the counter lies in range. -/
structure SerialLaw (s : State) : Prop where
  atMost : s.lots.length ≤ Config.lotRecords
  distinct : (s.lots.map (·.serial)).Nodup
  inRange : ∀ l ∈ s.lots, 1 ≤ l.serial ∧ l.serial ≤ Config.maxSerial
  counter : 1 ≤ s.nextSerial ∧ s.nextSerial ≤ Config.maxSerial

/-- The states of a lot that stands in a lane (R71). -/
def LotState.inLane : LotState → Bool
  | .curing | .overdue | .cured | .claimed | .rejected => true
  | .dosed | .void => false

/-- The states in which a lot may be held (R2). -/
def LotState.holdable : LotState → Bool
  | .curing | .overdue | .cured => true
  | .dosed | .void | .claimed | .rejected => false

/-- R2, R16, R102, R173: the fields of a lot fit its state, the counters their limits, the flags their counts, and a CURED or
CLAIMED lot has met its criteria. -/
structure LotLaw (l : Lot) : Prop where
  placed : l.place.isSome = l.state.inLane
  holdable : l.hold ≠ none → l.state.holdable = true
  fresh : l.state.inLane = false → l.age = 0 ∧ l.maturity = 0 ∧ l.hotMinutes = 0 ∧ l.outages = 0 ∧ l.extensions = 0
  age : l.age ≤ Config.maxMinutes
  maxAge : l.maxAge ≤ Config.maxMinutes
  maturity : l.maturity ≤ Config.maxMaturity
  hotMinutes : l.hotMinutes ≤ Config.maxMinutes
  outages : l.outages ≤ Config.maxCount
  extensions : l.extensions ≤ Config.maxCount
  interrupted : l.interrupted = true ↔ 1 ≤ l.outages
  extended : l.extended = true ↔ 1 ≤ l.extensions
  cured : l.state = .cured ∨ l.state = .claimed → l.meetsCriteria = true
  wet : l.wet = true → l.water = 0

/-- R54 for one line: the record names the line's one DOSED or VOID lot. -/
def LineNames (s : State) (n : Line) : LineRecord → Prop
  | .idle => True
  | .dosed serial remaining warning =>
    (1 ≤ remaining ∧ remaining ≤ 5400 ∧ warning ≤ 5399) ∧ ∃ l ∈ s.lots, l.serial = serial ∧ l.state = .dosed ∧ l.line = n
  | .void serial => ∃ l ∈ s.lots, l.serial = serial ∧ l.state = .void ∧ l.line = n

/-- R54: a DOSED or VOID lot is the lot its own line names, in the same state. -/
def LotOfLine (s : State) (l : Lot) : Prop :=
  (l.state = .dosed → ∃ remaining warning, s.lines[l.line] = .dosed l.serial remaining warning)
    ∧ (l.state = .void → s.lines[l.line] = .void l.serial)

/-- The laws of the hall, which hold of every state of a run: R2, R4, R54, R71, R102, R107 and R111 together, since each needs the
others to be kept. -/
structure HallLaw (s : State) : Prop where
  serials : SerialLaw s
  lots : ∀ l ∈ s.lots, LotLaw l
  lines : ∀ n : Line, LineNames s n s.lines[n]
  lotsOfLines : ∀ l ∈ s.lots, LotOfLine s l
  laneRoom : ∀ b : Bay, s.lanes[b].lots.length ≤ s.lanes[b].capacity
  laneDistinct : ∀ b : Bay, s.lanes[b].lots.Nodup
  laneLots : ∀ (b : Bay) (i serial : Nat), s.lanes[b].lots[i]? = some serial →
    ∃ l ∈ s.lots, l.serial = serial ∧ l.place.map (·.bay) = some b ∧ l.place.map (·.position) = some i
  lotLanes : ∀ l ∈ s.lots, ∀ p ∈ l.place, s.lanes[p.bay].lots[p.position]? = some l.serial
  queueDistinct : s.queue.Nodup
  queueExact : ∀ serial : Nat, serial ∈ s.queue ↔ ∃ l ∈ s.lots, l.serial = serial ∧ l.ready = true ∧ l.atFront = true
  claimsAtMost : s.claims.length ≤ Config.maxClaims
  claimTrucks : (s.claims.map (·.truck)).Nodup
  claimSerials : (s.claims.map (·.serial)).Nodup
  claimsRun : ∀ c ∈ s.claims, 1 ≤ c.remaining ∧ c.remaining ≤ 3600 ∧ 1 ≤ c.truck ∧ c.truck ≤ 65535
  claimsExact : ∀ l ∈ s.lots, l.state = .claimed ↔ ∃ c ∈ s.claims, c.serial = l.serial
  claimsLive : ∀ c ∈ s.claims, ∃ l ∈ s.lots, l.serial = c.serial
  claimedFront : ∀ l ∈ s.lots, l.state = .claimed → l.atFront = true
  parameters : ParameterLaw s
  recipes : RecipeLaw s

/-- R173 for one record, the parts that a record shows of itself. -/
structure RecordLaw (r : ReleaseRecord) : Prop where
  cured : r.effectiveTarget ≤ r.finalMaturity
  interrupted : r.interrupted = true ↔ 1 ≤ r.outages
  extended : r.extended = true ↔ 1 ≤ r.extensions
  wet : r.wet = true → r.water = 0
  truck : 1 ≤ r.truck ∧ r.truck ≤ 65535
  netMass : r.netMass ≤ 40000

/-- R121, R173: at most 32 records are held, each a good one. -/
structure LogLaw (s : State) : Prop where
  atMost : s.releaseLog.length ≤ Config.logRecords
  records : ∀ r ∈ s.releaseLog, RecordLaw r

/-- R170: the live lots are those of the lanes and those of the DOSED and VOID lines. -/
def liveLotsAddUp (s : State) : Prop :=
  s.lots.length = (s.lanes.toList.map (·.lots.length)).sum + (s.lines.toList.filter (· ≠ .idle)).length

/-- A lane counted by R171: its front lot is CURED and unheld, or CLAIMED. -/
def State.offersFront (s : State) (lane : Lane) : Bool := match lane.lots.head? with
  | some serial => (s.lot? serial).any fun l => l.ready || l.state = .claimed
  | none => false

/-- R171: the queue length and the claim count together are the number of such lanes. -/
def queueAndClaimsAddUp (s : State) : Prop :=
  s.queue.length + s.claims.length = (s.lanes.toList.filter s.offersFront).length

end Sys2Proof.Machine
end

