-- ==== Sys2Proof/Certificates/Slice0/Obligations.lean ====
section
/-! DEFINITION. The statements for the provers: what each command and event does, and the laws that every step keeps. A statement about a command
says, for each of its refusals in the spec's order and for its acceptance, the whole next state: what an equation
`exec c s = .next (answered … { s with … })` does not name, the command leaves as it was. -/

open Sys2Proof Sys2Proof.Machine

/-! ## The machine -/

/-- One step is the command at the front of the queue, run on the state with the queue's rest; on an empty queue nothing happens
(the queue is the model's own: log entry 2). -/
def Obligations.StepTakesTheFrontCommand : Prop :=
  (∀ (c : Instr) (rest : List Instr) (s : State), step { s with pending := c :: rest } = exec c { s with pending := rest })
    ∧ ∀ s : State, s.pending = [] → step s = .next s

/-- Table 9–4: every station command is the arrival of a frame with its code in byte 0 (for a SPAR parameter, its identifier in
byte 1). That a command row stands for the arrival of its frame is DEDUCED (log entry 3). -/
def Obligations.CommandsAreTheirFrames : Prop :=
  ∀ (st : Station) (a : List Byte) (s : State),
    exec (.dosq st a) s = exec (.commandFrameArrival st (0x10 :: a)) s
    ∧ exec (.dsch st a) s = exec (.commandFrameArrival st (0x11 :: a)) s
    ∧ exec (.abdn st a) s = exec (.commandFrameArrival st (0x12 :: a)) s
    ∧ exec (.qlin st a) s = exec (.commandFrameArrival st (0x13 :: a)) s
    ∧ exec (.tmpr st a) s = exec (.commandFrameArrival st (0x20 :: a)) s
    ∧ exec (.clnx st a) s = exec (.commandFrameArrival st (0x30 :: a)) s
    ∧ exec (.cnfm st a) s = exec (.commandFrameArrival st (0x31 :: a)) s
    ∧ exec (.rtrn st a) s = exec (.commandFrameArrival st (0x32 :: a)) s
    ∧ exec (.hold st a) s = exec (.commandFrameArrival st (0x40 :: a)) s
    ∧ exec (.unhd st a) s = exec (.commandFrameArrival st (0x41 :: a)) s
    ∧ exec (.rjct st a) s = exec (.commandFrameArrival st (0x42 :: a)) s
    ∧ exec (.clrb st a) s = exec (.commandFrameArrival st (0x43 :: a)) s
    ∧ exec (.extd st a) s = exec (.commandFrameArrival st (0x44 :: a)) s
    ∧ exec (.lock st a) s = exec (.commandFrameArrival st (0x45 :: a)) s
    ∧ exec (.ulck st a) s = exec (.commandFrameArrival st (0x46 :: a)) s
    ∧ exec (.rcpw st a) s = exec (.commandFrameArrival st (0x48 :: a)) s
    ∧ exec (.rcpe st a) s = exec (.commandFrameArrival st (0x49 :: a)) s
    ∧ exec (.rcpd st a) s = exec (.commandFrameArrival st (0x4A :: a)) s
    ∧ exec (.rcpr st a) s = exec (.commandFrameArrival st (0x4B :: a)) s
    ∧ exec (.stim st a) s = exec (.commandFrameArrival st (0x4C :: a)) s
    ∧ exec (.cementMax st a) s = exec (.commandFrameArrival st (0x4D :: 0 :: a)) s
    ∧ exec (.waterMax st a) s = exec (.commandFrameArrival st (0x4D :: 1 :: a)) s
    ∧ exec (.additiveMax st a) s = exec (.commandFrameArrival st (0x4D :: 2 :: a)) s
    ∧ exec (.staleLimit st a) s = exec (.commandFrameArrival st (0x4D :: 3 :: a)) s
    ∧ exec (.bayCapacity st a) s = exec (.commandFrameArrival st (0x4D :: 4 :: a)) s
    ∧ exec (.claimTimeout st a) s = exec (.commandFrameArrival st (0x4D :: 5 :: a)) s
    ∧ exec (.rstw st a) s = exec (.commandFrameArrival st (0x4E :: a)) s
    ∧ exec (.rstc st a) s = exec (.commandFrameArrival st (0x4F :: a)) s
    ∧ exec (.qlot st a) s = exec (.commandFrameArrival st (0x60 :: a)) s
    ∧ exec (.qrel st a) s = exec (.commandFrameArrival st (0x61 :: a)) s
    ∧ exec (.atrd st a) s = exec (.commandFrameArrival st (0x70 :: a)) s
    ∧ exec (.atcl st a) s = exec (.commandFrameArrival st (0x71 :: a)) s
    ∧ exec (.atmk st a) s = exec (.commandFrameArrival st (0x72 :: a)) s
    ∧ exec (.unknownCommand st a) s = exec (.commandFrameArrival st a) s

/-! ## Frames (R143 to R147) -/

/-- R143, R144: the arguments of every command, big-endian and in the order and widths of Table 9–4; a frame shorter than the
minimum length carries none, and bytes beyond the arguments are ignored. -/
def Obligations.ArgumentsOfFrames : Prop :=
  (∀ (m w k c : Nat) (rest : List Byte), m < 65536 → w < 65536 → k < 256 → c < 256 →
    doseRequest? (u16 m ++ u16 w ++ u8 k ++ u8 c ++ rest) = some ⟨m, w, k, c⟩)
  ∧ (∀ (n : Nat) (rest : List Byte), n < 256 → oneByte? (u8 n ++ rest) = some n)
  ∧ (∀ (n k : Nat) (rest : List Byte), n < 256 → k < 256 → twoBytes? (u8 n ++ u8 k ++ rest) = some (n, k))
  ∧ (∀ (b : Nat) (t : Int) (rest : List Byte), b < 256 → -32768 ≤ t → t ≤ 32767 →
    firstReading? (u8 b ++ s16 t ++ rest) = some (b, t))
  ∧ (∀ (b b' : Nat) (t t' : Int) (rest : List Byte), b' < 256 → -32768 ≤ t' → t' ≤ 32767 →
    secondReading? (u8 b ++ s16 t ++ u8 b' ++ s16 t' ++ rest) = some (b', t'))
  ∧ (∀ (n : Nat) (rest : List Byte), n < 65536 → truck? (u16 n ++ rest) = some n)
  ∧ (∀ (n t m : Nat) (rest : List Byte), n < 16777216 → t < 65536 → m < 65536 →
    confirmation? (u24 n ++ u16 t ++ u16 m ++ rest) = some ⟨n, t, m⟩)
  ∧ (∀ (n : Nat) (rest : List Byte), n < 16777216 → serial? (u24 n ++ rest) = some n)
  ∧ (∀ (n m : Nat) (rest : List Byte), n < 16777216 → m < 65536 → extension? (u24 n ++ u16 m ++ rest) = some (n, m))
  ∧ (∀ (r f v : Nat) (rest : List Byte), r < 256 → f < 256 → v < 65536 →
    recipeWrite? (u8 r ++ u8 f ++ u16 v ++ rest) = some (r, f, v, if v < 32768 then (v : Int) else (v : Int) - 65536))
  ∧ (∀ (n : Nat) (rest : List Byte), n < 4294967296 → minute? (u32 n ++ rest) = some n)
  ∧ (∀ (p i v : Nat) (rest : List Byte), p < 256 → i < 256 → v < 65536 → parameter? (u8 p ++ u8 i ++ u16 v ++ rest) = some (p, i, v))
  ∧ (∀ (n p : Nat) (rest : List Byte), n < 16777216 → p < 256 → lotPage? (u24 n ++ u8 p ++ rest) = some (n, p))
  ∧ (∀ (k p r : Nat) (rest : List Byte), k < 256 → p < 256 → r < 256 → recordPage? (u8 k ++ u8 p ++ u8 r ++ rest) = some (k, p, r))
  ∧ (∀ k p : Nat, k < 256 → p < 256 → recordPage? (u8 k ++ u8 p) = some (k, p, 0))
  ∧ (∀ (n : Nat) (rest : List Byte), n < 8192 → kindSet? (u16 n ++ rest) = some (BitVec.ofNat 13 n))
  ∧ (∀ (n : Nat) (rest : List Byte), 8192 ≤ n → n < 65536 → kindSet? (u16 n ++ rest) = none)
  ∧ (∀ a : List Byte, (a.length < 6 → doseRequest? a = none ∧ secondReading? a = none) ∧ (a.length < 1 → oneByte? a = none)
    ∧ (a.length < 2 → twoBytes? a = none ∧ truck? a = none ∧ recordPage? a = none ∧ kindSet? a = none)
    ∧ (a.length < 3 → firstReading? a = none ∧ serial? a = none) ∧ (a.length < 7 → confirmation? a = none)
    ∧ (a.length < 5 → extension? a = none)
    ∧ (a.length < 4 → recipeWrite? a = none ∧ minute? a = none ∧ parameter? a = none ∧ lotPage? a = none))

/-- R143, R145 to R147 and Tables 9–1 to 9–3, 9–5 to 9–8, 9–10: the eight bytes of an answer, with the code echoed, the status and the LOST mark
in byte 1, and the results of every command from byte 2 on; the bytes of notices and standing frames; the codes of states, reasons,
causes and statuses; the identifier of every frame; and the identifier base and bit rate that the straps select. -/
def Obligations.FramesSent : Prop :=
  (∀ a : Answer, a.bytes.length = 8 ∧ a.bytes[0]? = some a.code
    ∧ (∃ b : Byte, a.bytes[1]? = some b ∧ b.toNat % 64 = a.status.code ∧ b.getLsbD 6 = false ∧ b.getLsbD 7 = a.lost)
    ∧ a.bytes.drop 2 = a.results.fields ++ List.replicate (6 - a.results.fields.length) 0
    ∧ (a.results = .none → a.bytes.drop 2 = [0, 0, 0, 0, 0, 0]))
  ∧ ([Status.ok, .okWet, .notPermitted, .unknownCommand, .badArgument, .plantHalted, .lineBusy, .lineBlocked, .tableFull, .noRecipe,
      .tooWet, .overCement, .overWater, .overAdditive, .noDose, .bayLocked, .bayFull, .unknownLot, .wrongState, .queueEmpty,
      .claimLimit, .truckBusy, .notClaimed, .notRejected, .bayEmpty, .recipeEnabled, .badRecipe, .bayNotEmpty, .noRecord].map Status.code
      = List.range 29
    ∧ [LotState.dosed, .void, .curing, .overdue, .cured, .claimed, .rejected].map LotState.code = [1, 2, 3, 4, 5, 6, 7]
    ∧ [none, some HoldReason.supervisor, some .hot].map holdCode = [0, 1, 2]
    ∧ [LineState.idle, .dosed, .void].map LineState.code = [0, 1, 2]
    ∧ [StartCause.cold, .warm, .supervisorWarm, .supervisorCold].map StartCause.code = [0, 1, 2, 3])
  ∧ (∀ (c w a : Nat) (e : Int), (Results.dose c w a).fields = u16 c ++ u16 w ++ u16 a ∧ (Results.tooWet e a).fields = s16 e ++ u16 a)
  ∧ (∀ (serial position remaining : Nat) (b : Bay) (before : LotState) (st : LineState) (permit halt : Bool),
    (Results.discharged serial b position).fields = u24 serial ++ u8 b.val ++ u8 position
    ∧ (Results.abandoned serial before).fields = u24 serial ++ u8 before.code
    ∧ (Results.line st permit halt (some serial) remaining).fields
      = u8 (st.code + 4 * permit.toNat + 8 * halt.toNat) ++ u24 serial ++ u16 remaining
    ∧ (Results.line st permit halt none remaining).fields
      = u8 (st.code + 4 * permit.toNat + 8 * halt.toNat) ++ [0, 0, 0] ++ u16 remaining)
  ∧ (∀ (count occupancy : Nat) (first second locked : Bool) (b : Bay),
    (Results.readings count first none).fields = u8 count ++ u8 first.toNat ++ [0xFF]
    ∧ (Results.readings count first (some second)).fields = u8 count ++ u8 first.toNat ++ u8 second.toNat
    ∧ (Results.laneLock b locked occupancy).fields = u8 b.val ++ u8 locked.toNat ++ u8 occupancy)
  ∧ (∀ (k : RecipeNo) (field condition minute id index number : Nat) (value : Int) (enabled : Bool),
    (Results.recipeWritten k field value).fields = u8 k.val ++ u8 field ++ s16 value
    ∧ (Results.recipeEnable k enabled condition).fields = u8 k.val ++ u8 enabled.toNat ++ u8 condition
    ∧ (Results.recipeDisabled k enabled).fields = u8 k.val ++ u8 enabled.toNat
    ∧ (Results.recipeRead k field value enabled).fields = u8 k.val ++ u8 field ++ s16 value ++ u8 enabled.toNat
    ∧ (Results.plantMinute minute).fields = u32 minute
    ∧ (Results.parameter id index number).fields = u8 id ++ u8 index ++ u16 number)
  ∧ (∀ (serial : Nat) (b : Bay) (margin records queue : Nat),
    (Results.claimed serial b margin).fields = u24 serial ++ u24 (b.val * 1048576 + min margin 1048575)
    ∧ (Results.confirmed serial records).fields = u24 serial ++ u8 records
    ∧ (Results.returned serial queue).fields = u24 serial ++ u8 queue)
  ∧ (∀ (serial queue occupancy maxAge : Nat) (b : Bay) (st later : LotState) (reason : Option HoldReason),
    (Results.held serial st reason).fields = u24 serial ++ u8 st.code ++ u8 (holdCode reason)
    ∧ (Results.unheld serial st queue).fields = u24 serial ++ u8 st.code ++ u8 queue
    ∧ (Results.rejected serial st later).fields = u24 serial ++ u8 st.code ++ u8 later.code
    ∧ (Results.cleared b serial occupancy).fields = u8 b.val ++ u24 serial ++ u8 occupancy
    ∧ (Results.extended serial maxAge st).fields = u24 serial ++ u16 maxAge ++ u8 st.code)
  ∧ (∀ (kinds mask : KindSet) (cause : StartCause),
    (Results.attention kinds mask cause).fields = u16 kinds.toNat ++ u16 mask.toNat ++ u8 cause.code
    ∧ (Results.kinds kinds).fields = u16 kinds.toNat)
  ∧ (∀ (st : LotState) (reason : Option HoldReason) (wet extended interrupted hotHeld : Bool) (n : Line) (source chloride : Nat)
      (k : RecipeNo) (bay : Option Bay) (position : Option Nat),
    (Results.lotIdentity st reason ⟨wet, extended, interrupted, hotHeld⟩ n source k chloride bay position).fields
      = u8 st.code ++ u8 (wet.toNat + 2 * extended.toNat + 4 * interrupted.toNat + 8 * hotHeld.toNat + 16 * holdCode reason)
        ++ u8 (n.val + 4 * source + 16 * k.val) ++ u8 chloride
        ++ (match bay with | some b => u8 b.val | none => [0xFF]) ++ (match position with | some p => u8 p | none => [0xFF]))
  ∧ (∀ a b c d : Nat,
    (Results.lotMaturity a b).fields = u24 a ++ u24 b ∧ (Results.lotAge a b c).fields = u16 a ++ u16 b ++ u16 c
    ∧ (Results.lotHeat a b c d).fields = u16 a ++ u16 b ++ u8 c ++ u8 d
    ∧ (Results.releaseMinute a).fields = u32 a ∧ (Results.releaseCure a b).fields = u24 a ++ u24 b
    ∧ (Results.releaseHistory a b c d).fields = u16 a ++ u16 b ++ u8 c ++ u8 d
    ∧ (Results.releaseDose a b c).fields = u16 a ++ u16 b ++ u16 c ∧ (Results.releaseLoad a b c).fields = u16 a ++ u16 b ++ u16 c)
  ∧ (∀ (serial truck source : Nat) (n : Line) (k : RecipeNo) (b : Bay) (wet extended interrupted hotHeld : Bool),
    (Results.releaseIdentity serial truck n source k).fields = u24 serial ++ u16 truck ++ u8 (n.val + 4 * source + 16 * k.val)
    ∧ (Results.releasePlace serial b ⟨wet, extended, interrupted, hotHeld⟩).fields
      = u24 serial ++ u8 b.val ++ u8 (wet.toNat + 2 * extended.toNat + 4 * interrupted.toNat + 8 * hotHeld.toNat))
  ∧ (∀ (st : Station) (unmasked kinds : KindSet) (cause : StartCause), (TxFrame.notice st unmasked kinds cause).bytes.length = 5
    ∧ (TxFrame.notice st unmasked kinds cause).bytes = u16 unmasked.toNat ++ u16 kinds.toNat ++ u8 cause.code)
  ∧ (∀ (cause : StartCause) (timeValid halt : Bool) (live queue claims records : Nat),
    (TxFrame.status cause timeValid halt live queue claims records).bytes
      = u8 cause.code ++ u8 (timeValid.toNat + 2 * halt.toNat) ++ u8 live ++ u8 queue ++ u8 claims ++ u8 records ++ [0, 0])
  ∧ (∀ (serial : Nat) (b : Bay) (queue : Nat),
    (TxFrame.queueHead (some serial) (some b) queue).bytes = u24 serial ++ u8 b.val ++ u8 queue ++ [0, 0, 0]
      ∧ (TxFrame.queueHead none none queue).bytes = [0, 0, 0, 0xFF] ++ u8 queue ++ [0, 0, 0])
  ∧ (∀ (b : Bay) (locked stale : Bool) (capacity occupancy : Nat) (reading : Option Int) (front : Option Nat),
    (TxFrame.lane b locked stale capacity occupancy reading front).bytes
      = u8 (locked.toNat + 2 * stale.toNat) ++ u8 capacity ++ u8 occupancy
        ++ (match reading with | some t => s16 t | none => [0x80, 0x00])
        ++ (match front with | some serial => u24 serial | none => [0, 0, 0]))
  ∧ (∀ (p : Straps) (st : Station) (a : Answer) (unmasked kinds : KindSet) (cause : StartCause),
    (TxFrame.answer st a).ident (identBase p) = identBase p + 0x10 + st.val
      ∧ (TxFrame.notice st unmasked kinds cause).ident (identBase p) = identBase p + 0x20 + st.val)
  ∧ (∀ (p : Straps) (cause : StartCause) (timeValid halt : Bool) (live queue claims records : Nat) (serial : Option Nat)
      (head : Option Bay) (b : Bay) (locked stale : Bool) (capacity occupancy : Nat) (reading : Option Int) (front : Option Nat),
    (TxFrame.status cause timeValid halt live queue claims records).ident (identBase p) = identBase p + 0x30 + 0
      ∧ (TxFrame.queueHead serial head queue).ident (identBase p) = identBase p + 0x30 + 1
      ∧ (TxFrame.lane b locked stale capacity occupancy reading front).ident (identBase p) = identBase p + 0x30 + (2 + b.val))
  ∧ (∀ (p : Straps) (f : TxFrame), f.ident (identBase p) ≤ 0x441)
  ∧ (∀ p : Straps,
    (p.sa1 = false → p.sa0 = false → identBase p = 0x100) ∧ (p.sa1 = false → p.sa0 = true → identBase p = 0x200)
    ∧ (p.sa1 = true → p.sa0 = false → identBase p = 0x300) ∧ (p.sa1 = true → p.sa0 = true → identBase p = 0x400)
    ∧ (p.sb1 = false → p.sb0 = false → bitRate p = 125) ∧ (p.sb1 = false → p.sb0 = true → bitRate p = 250)
    ∧ (p.sb1 = true → p.sb0 = false → bitRate p = 500) ∧ (p.sb1 = true → p.sb0 = true → bitRate p = 1000))

/-! ## Arrivals and the common refusals (R148 to R150) -/

/-- R149, R150, R154: what an arriving command frame does. Taken at once, it is judged with its inbox empty, and the answer goes to the
station's slot with the LOST mark as it then stands, which is cleared. -/
def Obligations.FrameArrival : Prop :=
  ∀ (st : Station) (data : List Byte) (s : State), dataFits data = true →
    (s.link ≠ .onBus → exec (.commandFrameArrival st data) s = .next s)
    ∧ (s.link = .onBus →
      (∀ old : List Byte, s.inboxes[st] = some old →
        exec (.commandFrameArrival st data) s
          = .next { s with inboxes := s.inboxes.set st (some data), lostMarks := s.lostMarks.set st true })
      ∧ (s.inboxes[st] = none → s.slots[answerSlot st] ≠ .empty →
        exec (.commandFrameArrival st data) s = .next { s with inboxes := s.inboxes.set st (some data) })
      ∧ (s.inboxes[st] = none → s.slots[answerSlot st] = .empty →
        exec (.commandFrameArrival st data) s
          = .next (answered st (data.headD 0) (judgeFrame st data s).status (judgeFrame st data s).results
              (judgeFrame st data s).state)))

/-- 00_scope, "refused": a command that is answered neither OK nor OK_WET changes nothing but its answer, its answer slot and the LOST
mark that the answer carries. -/
def Obligations.RefusalsChangeNothing : Prop :=
  ∀ (st : Station) (data : List Byte) (s t : State), TakesAtOnce st s → dataFits data = true →
    exec (.commandFrameArrival st data) s = .next t →
    ∃ a : Answer, t.answers[st] = some a ∧ a.code = data.headD 0 ∧ a.lost = s.lostMarks[st]
      ∧ (a.status ≠ .ok → a.status ≠ .okWet → t = { s with
          answers := s.answers.set st (some a)
          slots := s.slots.set (answerSlot st) .pending
          lostMarks := s.lostMarks.set st false })

/-- R148, Table 9–9: an empty frame or an unknown code is answered UNKNOWN_COMMAND, a known code that the station's role may not send
NOT_PERMITTED, each by the link interface alone, and a permitted code gets neither answer. -/
def Obligations.RolesAndUnknownCodes : Prop :=
  ∀ (st : Station) (s : State), TakesAtOnce st s →
    exec (.unknownCommand st []) s = .next (answered st 0 .unknownCommand .none s)
    ∧ ∀ (code : Byte) (args : List Byte), argsFit args = true →
      (code ∉ commandBytes → exec (.unknownCommand st (code :: args)) s = .next (answered st code .unknownCommand .none s))
      ∧ (code ∈ commandBytes → code ∉ permittedCodes st →
        exec (.commandFrameArrival st (code :: args)) s = .next (answered st code .notPermitted .none s))
      ∧ (code ∈ permittedCodes st → ∃ (t : State) (a : Answer), exec (.commandFrameArrival st (code :: args)) s = .next t
        ∧ t.answers[st] = some a ∧ a.status ≠ .notPermitted ∧ a.status ≠ .unknownCommand)

/-! ## Lots and serials (chapter 1) -/

/-- R19, R20: QLOT's refusals in the order of Table 1–6 and the four pages of Table 1–7; it changes no state. -/
def Obligations.QlotReadsOnePage : Prop :=
  ∀ (st : Station) (args : List Byte) (s : State), TakesAtOnce st s → argsFit args = true →
    (args.length < 4 → exec (.qlot st args) s = .next (answered st 0x60 .badArgument .none s))
    ∧ ∀ serial page : Nat, lotPage? args = some (serial, page) →
      (3 < page → exec (.qlot st args) s = .next (answered st 0x60 .badArgument .none s))
      ∧ (page ≤ 3 → s.lot? serial = none → exec (.qlot st args) s = .next (answered st 0x60 .unknownLot .none s))
      ∧ ∀ l : Lot, s.lot? serial = some l →
        (page = 0 → exec (.qlot st args) s = .next (answered st 0x60 .ok
          (.lotIdentity l.state l.hold ⟨l.wet, l.extended, l.interrupted, l.hotHeld⟩ l.line l.source l.recipe l.chlorideClass
            (l.place.map (·.bay)) (l.place.map (·.position))) s))
        ∧ (page = 1 → exec (.qlot st args) s = .next (answered st 0x60 .ok (.lotMaturity l.maturity l.effectiveTarget) s))
        ∧ (page = 2 → exec (.qlot st args) s = .next (answered st 0x60 .ok (.lotAge l.age l.minAge l.maxAge) s))
        ∧ (page = 3 → exec (.qlot st args) s
          = .next (answered st 0x60 .ok (.lotHeat l.hotMinutes l.hotLimit l.outages l.extensions) s))

/-- R5, R6: a serial names the live lot that holds it and no other, and the serial that the next lot takes is the first from the counter on
that no live lot holds, 1 following 16,777,215. -/
def Obligations.SerialsNameLots : Prop :=
  ∀ s : State, SerialLaw s →
    (∀ l ∈ s.lots, s.lot? l.serial = some l)
    ∧ (∀ serial : Nat, s.lot? serial = none ↔ ∀ l ∈ s.lots, l.serial ≠ serial)
    ∧ (s.lots.length < 64 → (1 ≤ s.allocated ∧ s.allocated ≤ 16777215) ∧ s.lot? s.allocated = none
      ∧ ∃ passed : Nat, passed ≤ 63 ∧ s.allocated = nextAfter^[passed] s.nextSerial
        ∧ ∀ j : Nat, j < passed → s.lot? (nextAfter^[j] s.nextSerial) ≠ none)
    ∧ (nextAfter 16777215 = 1 ∧ ∀ n : Nat, n < 16777215 → nextAfter n = n + 1)

/-! ## Recipes (chapter 2) -/

/-- R23, R24: RCPW's refusals in the order of Table 2–4, and the write of the one field named (DATUM signed, every other field unsigned). -/
def Obligations.RcpwWritesOneField : Prop :=
  (∀ (args : List Byte) (s : State), TakesAtOnce supervisorStation s → argsFit args = true →
    (recipeWrite? args = none → exec (.rcpw 6 args) s = .next (answered 6 0x48 .badArgument .none s))
    ∧ ∀ (r id unsigned : Nat) (signed : Int), recipeWrite? args = some (r, id, unsigned, signed) →
      (7 < r ∨ 17 < id → exec (.rcpw 6 args) s = .next (answered 6 0x48 .badArgument .none s))
      ∧ ∀ (k : RecipeNo) (f : RecipeField) (v : Int), k.val = r → allFields[id]? = some f →
        v = (if id = 11 then signed else (unsigned : Int)) →
        (v < f.low ∨ f.high < v → exec (.rcpw 6 args) s = .next (answered 6 0x48 .badArgument .none s))
        ∧ (f.low ≤ v → v ≤ f.high → s.recipes[k].enabled = true →
          exec (.rcpw 6 args) s = .next (answered 6 0x48 .recipeEnabled .none s))
        ∧ (f.low ≤ v → v ≤ f.high → s.recipes[k].enabled = false →
          exec (.rcpw 6 args) s = .next (answered 6 0x48 .ok (.recipeWritten k id v)
            { s with recipes := s.recipes.set k (s.recipes[k].put f v) })))
  ∧ ∀ (r : Recipe) (f g : RecipeField) (v : Int), f.low ≤ v → v ≤ f.high →
    ((r.put f v).get g = if g = f then v else r.get g) ∧ (r.put f v).enabled = r.enabled

/-- R25, R26: RCPE's refusals, its answer to an enabled recipe, and the consistency check with the number of the first false condition. -/
def Obligations.RcpeChecksConsistency : Prop :=
  ∀ (args : List Byte) (s : State), TakesAtOnce supervisorStation s → argsFit args = true →
    (args = [] → exec (.rcpe 6 args) s = .next (answered 6 0x49 .badArgument .none s))
    ∧ ∀ r : Nat, oneByte? args = some r →
      (7 < r → exec (.rcpe 6 args) s = .next (answered 6 0x49 .badArgument .none s))
      ∧ ∀ k : RecipeNo, k.val = r →
        (s.recipes[k].enabled = true → exec (.rcpe 6 args) s = .next (answered 6 0x49 .ok (.recipeEnable k true 0) s))
        ∧ (s.recipes[k].enabled = false → s.recipes[k].conditions.all id = true →
          exec (.rcpe 6 args) s = .next (answered 6 0x49 .ok (.recipeEnable k true 0)
            { s with recipes := s.recipes.set k { s.recipes[k] with enabled := true } }))
        ∧ (s.recipes[k].enabled = false → s.recipes[k].conditions.all id = false →
          exec (.rcpe 6 args) s
            = .next (answered 6 0x49 .badRecipe (.recipeEnable k false (s.recipes[k].conditions.idxOf false + 1)) s))

/-- R28, R29: RCPD clears the enabled flag and nothing else; RCPR answers one field and the flag and changes nothing. -/
def Obligations.RcpdAndRcpr : Prop :=
  ∀ (args : List Byte) (s : State), TakesAtOnce supervisorStation s → argsFit args = true →
    ((oneByte? args = none → exec (.rcpd 6 args) s = .next (answered 6 0x4A .badArgument .none s))
    ∧ ∀ r : Nat, oneByte? args = some r →
      (7 < r → exec (.rcpd 6 args) s = .next (answered 6 0x4A .badArgument .none s))
      ∧ ∀ k : RecipeNo, k.val = r → exec (.rcpd 6 args) s = .next (answered 6 0x4A .ok (.recipeDisabled k false)
          { s with recipes := s.recipes.set k { s.recipes[k] with enabled := false } }))
    ∧ (twoBytes? args = none → exec (.rcpr 6 args) s = .next (answered 6 0x4B .badArgument .none s))
    ∧ ∀ r id : Nat, twoBytes? args = some (r, id) →
      (7 < r ∨ 17 < id → exec (.rcpr 6 args) s = .next (answered 6 0x4B .badArgument .none s))
      ∧ ∀ (k : RecipeNo) (f : RecipeField), k.val = r → allFields[id]? = some f →
        exec (.rcpr 6 args) s
          = .next (answered 6 0x4B .ok (.recipeRead k id (s.recipes[k].get f) s.recipes[k].enabled) s)

/-- R30: the recipe selected is the lowest-numbered enabled one that accepts the ash, and none is selected exactly when none accepts it. -/
def Obligations.SelectionIsLowestMatch : Prop :=
  ∀ (recipes : Vector Recipe 8) (source chlorideClass moisture : Nat),
    (∀ k : RecipeNo, selectRecipe recipes source chlorideClass moisture = some k ↔
      recipes[k].Accepts source chlorideClass moisture
        ∧ ∀ j : RecipeNo, j < k → ¬ recipes[j].Accepts source chlorideClass moisture)
    ∧ (selectRecipe recipes source chlorideClass moisture = none ↔
      ∀ k : RecipeNo, ¬ recipes[k].Accepts source chlorideClass moisture)

/-! ## Dosing (chapter 3) -/

/-- R38 to R41, R43: each step of the dose arithmetic with its rounding, and the range of every result, for every request and recipe in
range. -/
def Obligations.DoseArithmetic : Prop :=
  ∀ (r : Recipe) (m w : Nat), 100 ≤ m → m ≤ 8000 → w ≤ 600 → (∀ f : RecipeField, f.admits (r.get f) = true) →
    let d := computeDose r m w
    (1000 * d.dryAsh ≤ m * (1000 - w) ∧ m * (1000 - w) < 1000 * (d.dryAsh + 1) ∧ d.dryAsh + d.ashWater = m)
    ∧ (d.dryAsh * r.cementRatio ≤ 1000 * d.cement ∧ 1000 * d.cement < d.dryAsh * r.cementRatio + 1000)
    ∧ d.solids = d.dryAsh + d.cement
    ∧ (d.solids * r.waterRatio ≤ 1000 * d.targetWater ∧ 1000 * d.targetWater < d.solids * r.waterRatio + 1000)
    ∧ (d.dryAsh * r.additiveRatio ≤ 1000 * d.additive ∧ 1000 * d.additive < d.dryAsh * r.additiveRatio + 1000)
    ∧ (1000 * d.allowance ≤ d.solids * r.wetAllowance ∧ d.solids * r.wetAllowance < 1000 * (d.allowance + 1))
    ∧ d.excess = (d.ashWater : Int) - d.targetWater
    ∧ (d.excess ≤ 0 → d.wet = false ∧ (d.water : Int) = d.targetWater - d.ashWater)
    ∧ (0 < d.excess → d.wet = true ∧ d.water = 0)
    ∧ effectiveTarget r false = r.target * 600
    ∧ (r.target * 600 * r.wetPenalty ≤ 1000 * (effectiveTarget r true - r.target * 600)
      ∧ 1000 * (effectiveTarget r true - r.target * 600) < r.target * 600 * r.wetPenalty + 1000)
    ∧ (40 ≤ d.dryAsh ∧ d.dryAsh ≤ 8000 ∧ d.ashWater ≤ 4800)
    ∧ (2 ≤ d.cement ∧ d.cement ≤ 6400 ∧ 42 ≤ d.solids ∧ d.solids ≤ 14400)
    ∧ (7 ≤ d.targetWater ∧ d.targetWater ≤ 10080 ∧ d.additive ≤ 640 ∧ d.allowance ≤ 2880)
    ∧ (-10080 ≤ d.excess ∧ d.excess ≤ 4800)
    ∧ (30000 ≤ effectiveTarget r false ∧ effectiveTarget r false ≤ 7200000)
    ∧ (30000 ≤ effectiveTarget r true ∧ effectiveTarget r true ≤ 10800000)

/-- R36, R46: the refusals of DOSQ in the order of Table 3–3, each with the results of Table 3–5 and no other effect. -/
def Obligations.DosqRefusalOrder : Prop :=
  ∀ (n : Line) (args : List Byte) (s : State), TakesAtOnce (mixerStation n) s → argsFit args = true →
    (args.length < 6 → exec (.dosq (mixerStation n) args) s = .next (answered (mixerStation n) 0x10 .badArgument .none s))
    ∧ ∀ q : DoseRequest, doseRequest? args = some q →
      (q.wetAsh < 100 ∨ 8000 < q.wetAsh ∨ 600 < q.moisture ∨ 7 < q.chlorideClass ∨ 3 < q.source →
        exec (.dosq (mixerStation n) args) s = .next (answered (mixerStation n) 0x10 .badArgument .none s))
      ∧ (100 ≤ q.wetAsh → q.wetAsh ≤ 8000 → q.moisture ≤ 600 → q.chlorideClass ≤ 7 → q.source ≤ 3 →
        (s.haltRegistered = true →
          exec (.dosq (mixerStation n) args) s = .next (answered (mixerStation n) 0x10 .plantHalted .none s))
        ∧ (s.haltRegistered = false →
          (∀ serial remaining warning : Nat, s.lines[n] = .dosed serial remaining warning →
            exec (.dosq (mixerStation n) args) s = .next (answered (mixerStation n) 0x10 .lineBusy .none s))
          ∧ (∀ serial : Nat, s.lines[n] = .void serial →
            exec (.dosq (mixerStation n) args) s = .next (answered (mixerStation n) 0x10 .lineBlocked .none s))
          ∧ (s.lines[n] = .idle →
            (64 ≤ s.lots.length →
              exec (.dosq (mixerStation n) args) s = .next (answered (mixerStation n) 0x10 .tableFull .none s))
            ∧ (s.lots.length < 64 →
              ((∀ k : RecipeNo, ¬ s.recipes[k].Accepts q.source q.chlorideClass q.moisture) →
                exec (.dosq (mixerStation n) args) s = .next (answered (mixerStation n) 0x10 .noRecipe .none s))
              ∧ ∀ (k : RecipeNo) (d : Dose), selectRecipe s.recipes q.source q.chlorideClass q.moisture = some k →
                d = computeDose s.recipes[k] q.wetAsh q.moisture →
                ((d.allowance : Int) < d.excess → exec (.dosq (mixerStation n) args) s
                  = .next (answered (mixerStation n) 0x10 .tooWet (.tooWet d.excess d.allowance) s))
                ∧ (d.excess ≤ d.allowance → s.limits[n].cementMax < d.cement → exec (.dosq (mixerStation n) args) s
                  = .next (answered (mixerStation n) 0x10 .overCement (.dose d.cement d.water d.additive) s))
                ∧ (d.excess ≤ d.allowance → d.cement ≤ s.limits[n].cementMax → s.limits[n].waterMax < d.water →
                  exec (.dosq (mixerStation n) args) s
                    = .next (answered (mixerStation n) 0x10 .overWater (.dose d.cement d.water d.additive) s))
                ∧ (d.excess ≤ d.allowance → d.cement ≤ s.limits[n].cementMax → d.water ≤ s.limits[n].waterMax →
                  s.limits[n].additiveMax < d.additive → exec (.dosq (mixerStation n) args) s
                    = .next (answered (mixerStation n) 0x10 .overAdditive (.dose d.cement d.water d.additive) s))))))

/-- R45, R7, R33, R55: an accepted DOSQ creates the lot from the request, the recipe's snapshot and the dose, opens the line's window and
answers the three masses; nothing else changes. The serial is the one of R6. -/
def Obligations.DosqAccepted : Prop :=
  ∀ (n : Line) (args : List Byte) (s : State) (q : DoseRequest) (k : RecipeNo) (d : Dose),
    TakesAtOnce (mixerStation n) s → argsFit args = true → doseRequest? args = some q →
    100 ≤ q.wetAsh → q.wetAsh ≤ 8000 → q.moisture ≤ 600 → q.chlorideClass ≤ 7 → q.source ≤ 3 →
    s.haltRegistered = false → s.lines[n] = .idle → s.lots.length < 64 →
    selectRecipe s.recipes q.source q.chlorideClass q.moisture = some k → d = computeDose s.recipes[k] q.wetAsh q.moisture →
    d.excess ≤ d.allowance → d.cement ≤ s.limits[n].cementMax → d.water ≤ s.limits[n].waterMax →
    d.additive ≤ s.limits[n].additiveMax →
    exec (.dosq (mixerStation n) args) s
      = .next (answered (mixerStation n) 0x10 (if 0 < d.excess then .okWet else .ok) (.dose d.cement d.water d.additive)
        { s with
          lots := s.lots ++ [{
            serial := s.allocated, state := .dosed, line := n, source := q.source, chlorideClass := q.chlorideClass, recipe := k
            effectiveTarget := effectiveTarget s.recipes[k] (0 < d.excess), datum := s.recipes[k].datum, cap := s.recipes[k].cap
            minAge := s.recipes[k].minAge, maxAge := s.recipes[k].maxAge, hotLimit := s.recipes[k].hotLimit
            wetAsh := q.wetAsh, dryAsh := d.dryAsh, cement := d.cement, water := d.water, additive := d.additive
            wet := 0 < d.excess, extended := false, interrupted := false, hotHeld := false, hold := none, place := none
            age := 0, maturity := 0, hotMinutes := 0, outages := 0, extensions := 0 }]
          nextSerial := nextAfter s.allocated
          lines := s.lines.set n (.dosed s.allocated s.recipes[k].pourWindow s.recipes[k].pourWarning)
          permits := s.permits.set n s.ready })

/-- R51: no dose is answered OK or OK_WET with a mass above the line's limits as they stood, and the new lot records the answered masses. -/
def Obligations.DosesStayWithinLimits : Prop :=
  ∀ (n : Line) (args : List Byte) (s t : State) (a : Answer), TakesAtOnce (mixerStation n) s → argsFit args = true →
    exec (.dosq (mixerStation n) args) s = .next t → t.answers[mixerStation n] = some a → (a.status = .ok ∨ a.status = .okWet) →
    ∃ cement water additive : Nat, a.results = .dose cement water additive
      ∧ cement ≤ s.limits[n].cementMax ∧ water ≤ s.limits[n].waterMax ∧ additive ≤ s.limits[n].additiveMax
      ∧ t.limits = s.limits
      ∧ ∃ l : Lot, t.lots = s.lots ++ [l] ∧ l.cement = cement ∧ l.water = water ∧ l.additive = additive

/-- R48, R49: SPAR's common refusals, and the setting of one dosing limit of one line. -/
def Obligations.SparSetsLineLimits : Prop :=
  ∀ s : State, TakesAtOnce supervisorStation s →
    (∀ data : List Byte, data.length < 4 →
      exec (.commandFrameArrival 6 (0x4D :: data)) s = .next (answered 6 0x4D .badArgument .none s))
    ∧ (∀ (p i hi lo : Byte) (rest : List Byte), argsFit (p :: i :: hi :: lo :: rest) = true → 5 < p.toNat →
      exec (.commandFrameArrival 6 (0x4D :: p :: i :: hi :: lo :: rest)) s = .next (answered 6 0x4D .badArgument .none s))
    ∧ ∀ (i hi lo : Byte) (rest : List Byte) (v : Nat), parameterArgsFit (i :: hi :: lo :: rest) = true → v = beNat [hi, lo] →
      (3 < i.toNat ∨ v < 50 ∨ 4000 < v →
        exec (.cementMax 6 (i :: hi :: lo :: rest)) s = .next (answered 6 0x4D .badArgument .none s)
          ∧ exec (.waterMax 6 (i :: hi :: lo :: rest)) s = .next (answered 6 0x4D .badArgument .none s))
      ∧ (3 < i.toNat ∨ 400 < v → exec (.additiveMax 6 (i :: hi :: lo :: rest)) s = .next (answered 6 0x4D .badArgument .none s))
      ∧ ∀ n : Line, n.val = i.toNat →
        (50 ≤ v → v ≤ 4000 →
          exec (.cementMax 6 (i :: hi :: lo :: rest)) s = .next (answered 6 0x4D .ok (.parameter 0 n.val v)
            { s with limits := s.limits.set n { s.limits[n] with cementMax := v } })
          ∧ exec (.waterMax 6 (i :: hi :: lo :: rest)) s = .next (answered 6 0x4D .ok (.parameter 1 n.val v)
            { s with limits := s.limits.set n { s.limits[n] with waterMax := v } }))
        ∧ (v ≤ 400 → exec (.additiveMax 6 (i :: hi :: lo :: rest)) s = .next (answered 6 0x4D .ok (.parameter 2 n.val v)
          { s with limits := s.limits.set n { s.limits[n] with additiveMax := v } }))

/-! ## Pour windows, permits and the plant halt (chapter 4) -/

/-- R58, R59, R8, R72: DSCH's refusals in the order of Table 4–4, and the placement of the line's lot at the back of the named lane. -/
def Obligations.DschPlacesTheLot : Prop :=
  ∀ (n : Line) (args : List Byte) (s : State), TakesAtOnce (mixerStation n) s → argsFit args = true →
    (args = [] → exec (.dsch (mixerStation n) args) s = .next (answered (mixerStation n) 0x11 .badArgument .none s))
    ∧ ∀ bay : Nat, oneByte? args = some bay →
      (15 < bay → exec (.dsch (mixerStation n) args) s = .next (answered (mixerStation n) 0x11 .badArgument .none s))
      ∧ ∀ b : Bay, b.val = bay →
        (s.lines[n] = .idle → exec (.dsch (mixerStation n) args) s = .next (answered (mixerStation n) 0x11 .noDose .none s))
        ∧ (∀ serial : Nat, s.lines[n] = .void serial →
          exec (.dsch (mixerStation n) args) s = .next (answered (mixerStation n) 0x11 .wrongState .none s))
        ∧ ∀ serial remaining warning : Nat, s.lines[n] = .dosed serial remaining warning →
          (s.lanes[b].locked = true →
            exec (.dsch (mixerStation n) args) s = .next (answered (mixerStation n) 0x11 .bayLocked .none s))
          ∧ (s.lanes[b].locked = false → s.lanes[b].lots.length = s.lanes[b].capacity →
            exec (.dsch (mixerStation n) args) s = .next (answered (mixerStation n) 0x11 .bayFull .none s))
          ∧ (s.lanes[b].locked = false → s.lanes[b].lots.length < s.lanes[b].capacity →
            exec (.dsch (mixerStation n) args) s
              = .next (answered (mixerStation n) 0x11 .ok (.discharged serial b s.lanes[b].lots.length)
                { s with
                  lots := s.lots.map fun l => if l.serial = serial
                    then { l with state := .curing, place := some ⟨b, s.lanes[b].lots.length, s.plantMinute⟩ } else l
                  lanes := s.lanes.set b { s.lanes[b] with lots := s.lanes[b].lots ++ [serial] }
                  lines := s.lines.set n .idle
                  permits := s.permits.set n false }))

/-- R61, R10 and R64: ABDN frees the line's DOSED or VOID lot and makes the line IDLE; QLIN answers the line's record and changes nothing. -/
def Obligations.AbdnAndQlin : Prop :=
  ∀ (n : Line) (args : List Byte) (s : State), TakesAtOnce (mixerStation n) s → argsFit args = true →
    (s.lines[n] = .idle →
      exec (.abdn (mixerStation n) args) s = .next (answered (mixerStation n) 0x12 .noDose .none s)
      ∧ exec (.qlin (mixerStation n) args) s
        = .next (answered (mixerStation n) 0x13 .ok (.line .idle s.permits[n] s.haltRegistered none 0) s))
    ∧ (∀ serial remaining warning : Nat, s.lines[n] = .dosed serial remaining warning →
      exec (.abdn (mixerStation n) args) s = .next (answered (mixerStation n) 0x12 .ok (.abandoned serial .dosed)
        { s with
          lots := s.lots.filter (·.serial ≠ serial), lines := s.lines.set n .idle, permits := s.permits.set n false })
      ∧ exec (.qlin (mixerStation n) args) s
        = .next (answered (mixerStation n) 0x13 .ok (.line .dosed s.permits[n] s.haltRegistered (some serial) remaining) s))
    ∧ (∀ serial : Nat, s.lines[n] = .void serial →
      exec (.abdn (mixerStation n) args) s = .next (answered (mixerStation n) 0x12 .ok (.abandoned serial .void)
        { s with
          lots := s.lots.filter (·.serial ≠ serial), lines := s.lines.set n .idle, permits := s.permits.set n false })
      ∧ exec (.qlin (mixerStation n) args) s
        = .next (answered (mixerStation n) 0x13 .ok (.line .void s.permits[n] s.haltRegistered (some serial) 0) s))

/-- R66 to R68: the qualification timer times while the raw level differs from the registered one; a registered assertion drops every permit
and makes HALT_ACTIVE true, a registered release asserts the permit of every DOSED line while READY is asserted and makes it
false. With the timer idle, or the levels not those of the registration, a registration changes nothing (the model's choice: log
entry 4). Out of service the filter does not run: no level is registered, and that a change of PH changes the raw level alone is
DEDUCED (log entry 19). -/
def Obligations.HaltInputFiltered : Prop :=
  (∀ s : State, s.phase = .inService →
    (∀ level : Bool, exec (.phChange level) s
      = .next { s with phRaw := level, qualifying := if level = s.haltRegistered then false else true })
    ∧ (s.qualifying = true → s.phRaw = true → s.haltRegistered = false → exec .haltAssertionRegistered s
      = .next (reportCondition .haltActive true
        { s with haltRegistered := true, qualifying := false, permits := Vector.replicate 4 false }))
    ∧ (s.qualifying = true → s.phRaw = false → s.haltRegistered = true → exec .haltReleaseRegistered s
      = .next (reportCondition .haltActive false
        { s with
          haltRegistered := false, qualifying := false
          permits := Vector.ofFn fun n => s.lines[n].isDosed && s.ready }))
    ∧ (s.qualifying = false ∨ s.phRaw = false ∨ s.haltRegistered = true → exec .haltAssertionRegistered s = .next s)
    ∧ (s.qualifying = false ∨ s.phRaw = true ∨ s.haltRegistered = false → exec .haltReleaseRegistered s = .next s))
  ∧ ∀ s : State, s.phase ≠ .inService →
    (∀ level : Bool, exec (.phChange level) s = .next { s with phRaw := level })
    ∧ exec .haltAssertionRegistered s = .next s ∧ exec .haltReleaseRegistered s = .next s

/-! ## Lanes (chapter 5) -/

/-- R79 to R82, R85: TMPR's refusals, and the taking of its one or two readings, the first before the second: a valid one replaces the lane's
reading at age 0 and BAY_STALE follows the lanes, one out of range raises PROBE_FAULT for the hall and the supervisor and is
discarded. -/
def Obligations.TmprTakesReadings : Prop :=
  (∀ (args : List Byte) (s : State), TakesAtOnce hallStation s → argsFit args = true →
    (args.length < 3 → exec (.tmpr 4 args) s = .next (answered 4 0x20 .badArgument .none s))
    ∧ ∀ (bay₁ : Nat) (t₁ : Int), firstReading? args = some (bay₁, t₁) →
      (15 < bay₁ → exec (.tmpr 4 args) s = .next (answered 4 0x20 .badArgument .none s))
      ∧ ∀ b₁ : Bay, b₁.val = bay₁ →
        (args.length < 6 → exec (.tmpr 4 args) s
          = .next (answered 4 0x20 .ok (.readings 1 (decide (t₁ < -400 ∨ 900 < t₁)) none) (takeReading b₁ t₁ s)))
        ∧ ∀ (bay₂ : Nat) (t₂ : Int), secondReading? args = some (bay₂, t₂) →
          (15 < bay₂ → exec (.tmpr 4 args) s = .next (answered 4 0x20 .badArgument .none s))
          ∧ ∀ b₂ : Bay, b₂.val = bay₂ → exec (.tmpr 4 args) s
            = .next (answered 4 0x20 .ok
              (.readings 2 (decide (t₁ < -400 ∨ 900 < t₁)) (some (decide (t₂ < -400 ∨ 900 < t₂))))
              (takeReading b₂ t₂ (takeReading b₁ t₁ s))))
  ∧ ∀ (b : Bay) (t : Int) (s : State),
    (-400 ≤ t → t ≤ 900 → takeReading b t s
      = reportStale { s with lanes := s.lanes.set b { s.lanes[b] with reading := some ⟨t, 0⟩ } })
    ∧ (t < -400 ∨ 900 < t → takeReading b t s = raiseFor (fun st => st = hallStation || st = supervisorStation) .probeFault s)

/-- R76: LOCK and ULCK set one lane's lock and change nothing else. -/
def Obligations.LockAndUlck : Prop :=
  ∀ (args : List Byte) (s : State), TakesAtOnce supervisorStation s → argsFit args = true →
    (args = [] → exec (.lock 6 args) s = .next (answered 6 0x45 .badArgument .none s)
      ∧ exec (.ulck 6 args) s = .next (answered 6 0x46 .badArgument .none s))
    ∧ ∀ bay : Nat, oneByte? args = some bay →
      (15 < bay → exec (.lock 6 args) s = .next (answered 6 0x45 .badArgument .none s)
        ∧ exec (.ulck 6 args) s = .next (answered 6 0x46 .badArgument .none s))
      ∧ ∀ b : Bay, b.val = bay →
        exec (.lock 6 args) s = .next (answered 6 0x45 .ok (.laneLock b true s.lanes[b].lots.length)
          { s with lanes := s.lanes.set b { s.lanes[b] with locked := true } })
        ∧ exec (.ulck 6 args) s = .next (answered 6 0x46 .ok (.laneLock b false s.lanes[b].lots.length)
          { s with lanes := s.lanes.set b { s.lanes[b] with locked := false } })

/-- R77, R78, R120, R48: SPAR of the stale limit, of a lane's capacity (refused while the lane holds a lot) and of the claim timeout. -/
def Obligations.SparSetsHallParameters : Prop :=
  ∀ (i hi lo : Byte) (rest : List Byte) (v : Nat) (s : State), TakesAtOnce supervisorStation s →
    parameterArgsFit (i :: hi :: lo :: rest) = true → v = beNat [hi, lo] →
    (i.toNat ≠ 0 ∨ v < 1 ∨ 60 < v → exec (.staleLimit 6 (i :: hi :: lo :: rest)) s = .next (answered 6 0x4D .badArgument .none s))
    ∧ (i.toNat = 0 → 1 ≤ v → v ≤ 60 → exec (.staleLimit 6 (i :: hi :: lo :: rest)) s
      = .next (answered 6 0x4D .ok (.parameter 3 0 v) { s with staleLimit := v }))
    ∧ (i.toNat ≠ 0 ∨ v < 120 ∨ 3600 < v →
      exec (.claimTimeout 6 (i :: hi :: lo :: rest)) s = .next (answered 6 0x4D .badArgument .none s))
    ∧ (i.toNat = 0 → 120 ≤ v → v ≤ 3600 → exec (.claimTimeout 6 (i :: hi :: lo :: rest)) s
      = .next (answered 6 0x4D .ok (.parameter 5 0 v) { s with claimTimeout := v }))
    ∧ (15 < i.toNat ∨ v < 1 ∨ 6 < v →
      exec (.bayCapacity 6 (i :: hi :: lo :: rest)) s = .next (answered 6 0x4D .badArgument .none s))
    ∧ ∀ b : Bay, b.val = i.toNat → 1 ≤ v → v ≤ 6 →
      (s.lanes[b].lots ≠ [] → exec (.bayCapacity 6 (i :: hi :: lo :: rest)) s = .next (answered 6 0x4D .bayNotEmpty .none s))
      ∧ (s.lanes[b].lots = [] → exec (.bayCapacity 6 (i :: hi :: lo :: rest)) s
        = .next (answered 6 0x4D .ok (.parameter 4 b.val v)
          { s with lanes := s.lanes.set b { s.lanes[b] with capacity := v } }))

/-! ## The time base (chapter 6) -/

/-- R93: STIM sets the plant minute, makes time valid, sets the divider and the second-in-minute count to zero and ends TIME_UNSET.
The model's own intervalTaken is cleared with them (log entries 5 and 22). -/
def Obligations.StimSetsTheMinute : Prop :=
  ∀ (args : List Byte) (s : State), TakesAtOnce supervisorStation s → argsFit args = true →
    (args.length < 4 → exec (.stim 6 args) s = .next (answered 6 0x4C .badArgument .none s))
    ∧ ∀ minute : Nat, minute? args = some minute → exec (.stim 6 args) s
      = .next (answered 6 0x4C .ok (.plantMinute minute) (reportCondition .timeUnset false
        { s with plantMinute := minute, timeValid := true, divider := 0, secondInMinute := 0, intervalTaken := false }))

/-- R88, R56, R57, R114, R89: in service a second event completes; it runs every pour window and claim timer by one second and counts the
second; the sixtieth is an interval event as well, taken after the timers (which of the two goes first is the model's choice:
log entry 5), on a state u that meets the laws of the hall, so that IntervalCreditsLots and IntervalHandsOver say what that interval
event does. The two laws hold of every state of a run (StepsKeepTheHall, StepsKeepPermits). -/
def Obligations.SecondEventRunsTimers : Prop :=
  ∀ s : State, HallLaw s → PermitLaw s → s.phase = .inService → s.secondInMinute ≤ 59 →
    ∃ u : State, TimersRun s { u with secondInMinute := s.secondInMinute } ∧ HallLaw u
      ∧ u.secondInMinute = (if s.secondInMinute = 59 then 0 else s.secondInMinute + 1)
      ∧ exec .secondEvent s = .next (if s.secondInMinute = 59 ∧ s.intervalTaken = false then takeInterval u else u)

/-- R89, R91, R83, R95 to R100: an interval event, on its own row or inside the sixtieth second event (SecondEventRunsTimers), raises the
plant minute, judges and ages every lane's reading, and credits and judges every lot, each by the temperature its lane hands over.
The row completes with it at a sixtieth second whose interval event is still to come, before that second event reaches the timers,
and changes nothing at any other time: both are the model's choice (log entries 5 and 4). -/
def Obligations.IntervalCreditsLots : Prop :=
  (∀ s : State, HallLaw s → IntervalCredited s (takeInterval s))
  ∧ (∀ s : State, s.phase = .inService → s.secondInMinute = 59 → s.intervalTaken = false →
    exec .intervalEvent s = .next { takeInterval s with intervalTaken := true })
  ∧ ∀ s : State, s.phase = .inService → s.secondInMinute < 59 ∨ s.intervalTaken = true → exec .intervalEvent s = .next s

/-- R100, R101, R103, R85, R124: what the decisions of an interval event hand to the dispatch queue, the claims and the attention unit; the joins
come in ascending bay order behind the lots already queued. That each condition is reported once for the whole taking, so that QUEUE_READY
and the notice slots follow the queue as the interval leaves it, is DEDUCED (log entry 13). -/
def Obligations.IntervalHandsOver : Prop := ∀ s : State, HallLaw s → IntervalHandedOver s (takeInterval s)

/-! ## Dispatch (chapter 7) -/

/-- R112, R113, R124: CLNX's refusals in the order of Table 7–2, and the claim of the queue's head. -/
def Obligations.ClnxClaimsTheHead : Prop :=
  ∀ (args : List Byte) (s : State), TakesAtOnce loadoutStation s → argsFit args = true →
    (args.length < 2 → exec (.clnx 5 args) s = .next (answered 5 0x30 .badArgument .none s))
    ∧ ∀ truck : Nat, truck? args = some truck →
      (truck = 0 → exec (.clnx 5 args) s = .next (answered 5 0x30 .badArgument .none s))
      ∧ (truck ≠ 0 →
        (s.queue = [] → exec (.clnx 5 args) s = .next (answered 5 0x30 .queueEmpty .none s))
        ∧ ∀ (serial : Nat) (behind : List Nat), s.queue = serial :: behind →
          (4 ≤ s.claims.length → exec (.clnx 5 args) s = .next (answered 5 0x30 .claimLimit .none s))
          ∧ (s.claims.length < 4 → (∃ c ∈ s.claims, c.truck = truck) →
            exec (.clnx 5 args) s = .next (answered 5 0x30 .truckBusy .none s))
          ∧ (s.claims.length < 4 → (∀ c ∈ s.claims, c.truck ≠ truck) → ∀ (l : Lot) (p : Place), s.lot? serial = some l →
            l.place = some p →
            exec (.clnx 5 args) s
              = .next (answered 5 0x30 .ok (.claimed serial p.bay (l.maturity - l.effectiveTarget))
                (reportCondition .queueReady (!behind.isEmpty)
                  { s with
                    queue := behind
                    lots := s.lots.map fun x => if x.serial = serial then { x with state := .claimed } else x
                    claims := s.claims ++ [⟨serial, truck, s.claimTimeout⟩] }))))

/-- R115, R116, R121, R122: CNFM's refusals in the order of Table 7–3, and the confirmation: the release record, the claim's end, the front removal and
the hand-over of the new front (which ClrbClearsTheFront spells out). -/
def Obligations.CnfmReleasesTheLot : Prop :=
  ∀ (args : List Byte) (s : State), TakesAtOnce loadoutStation s → argsFit args = true →
    (args.length < 7 → exec (.cnfm 5 args) s = .next (answered 5 0x31 .badArgument .none s))
    ∧ ∀ q : Confirmation, confirmation? args = some q →
      (q.truck = 0 ∨ 40000 < q.netMass → exec (.cnfm 5 args) s = .next (answered 5 0x31 .badArgument .none s))
      ∧ (q.truck ≠ 0 → q.netMass ≤ 40000 →
        (s.lot? q.serial = none → exec (.cnfm 5 args) s = .next (answered 5 0x31 .unknownLot .none s))
        ∧ ∀ l : Lot, s.lot? q.serial = some l →
          (l.state ≠ .claimed ∨ (∀ c ∈ s.claims, c.serial = q.serial → c.truck ≠ q.truck) →
            exec (.cnfm 5 args) s = .next (answered 5 0x31 .notClaimed .none s))
          ∧ (l.state = .claimed → (∃ c ∈ s.claims, c.serial = q.serial ∧ c.truck = q.truck) → s.releaseLog.length ≤ 32 →
            ∀ p : Place, l.place = some p → ∀ log : List ReleaseRecord,
            log = (if s.releaseLog.length < 32 then s.releaseLog else s.releaseLog.tail) ++ [{
              serial := q.serial, recipe := l.recipe, line := l.line, source := l.source, bay := p.bay
              pourMinute := p.pourMinute, dispatchMinute := s.plantMinute, finalMaturity := l.maturity
              effectiveTarget := l.effectiveTarget, finalAge := l.age, hotMinutes := l.hotMinutes, outages := l.outages
              extensions := l.extensions, wet := l.wet, extended := l.extended, interrupted := l.interrupted
              hotHeld := l.hotHeld, dryAsh := l.dryAsh, cement := l.cement, water := l.water, additive := l.additive
              wetAsh := l.wetAsh, truck := q.truck, netMass := q.netMass }] →
            exec (.cnfm 5 args) s = .next (answered 5 0x31 .ok (.confirmed q.serial log.length)
              (handOver p.bay (removeFront p.bay
                { s with releaseLog := log, claims := s.claims.filter (·.serial ≠ q.serial) })))))

/-- R117, R110: RTRN's refusals, and the return of the claimed lot to the queue's head. -/
def Obligations.RtrnReturnsTheClaim : Prop :=
  ∀ (args : List Byte) (s : State), TakesAtOnce loadoutStation s → argsFit args = true →
    (args.length < 3 → exec (.rtrn 5 args) s = .next (answered 5 0x32 .badArgument .none s))
    ∧ ∀ serial : Nat, serial? args = some serial →
      (s.lot? serial = none → exec (.rtrn 5 args) s = .next (answered 5 0x32 .unknownLot .none s))
      ∧ ∀ l : Lot, s.lot? serial = some l →
        (l.state ≠ .claimed → exec (.rtrn 5 args) s = .next (answered 5 0x32 .notClaimed .none s))
        ∧ (l.state = .claimed → exec (.rtrn 5 args) s
          = .next (answered 5 0x32 .ok (.returned serial (s.queue.length + 1)) (reportCondition .queueReady true
            { s with
              queue := serial :: s.queue
              claims := s.claims.filter (·.serial ≠ serial)
              lots := s.lots.map fun x => if x.serial = serial then { x with state := .cured } else x })))

/-- R123, R146: QREL's refusals in order and the eight parts of its pages; k counts back from the newest record, and nothing changes. -/
def Obligations.QrelReadsTheLog : Prop :=
  ∀ (st : Station) (args : List Byte) (s : State), (st = loadoutStation ∨ st = supervisorStation) → TakesAtOnce st s →
    argsFit args = true →
    (args.length < 2 → exec (.qrel st args) s = .next (answered st 0x61 .badArgument .none s))
    ∧ ∀ k page part : Nat, recordPage? args = some (k, page, part) →
      (3 < page ∨ 1 < part → exec (.qrel st args) s = .next (answered st 0x61 .badArgument .none s))
      ∧ (page ≤ 3 → part ≤ 1 →
        (s.releaseLog.length ≤ k → exec (.qrel st args) s = .next (answered st 0x61 .noRecord .none s))
        ∧ ∀ r : ReleaseRecord, k < s.releaseLog.length → s.releaseLog[s.releaseLog.length - 1 - k]? = some r →
          ∀ results : Results,
          results = (match page, part with
            | 0, 0 => .releaseIdentity r.serial r.truck r.line r.source r.recipe
            | 0, _ => .releasePlace r.serial r.bay ⟨r.wet, r.extended, r.interrupted, r.hotHeld⟩
            | 1, 0 => .releaseMinute r.pourMinute
            | 1, _ => .releaseMinute r.dispatchMinute
            | 2, 0 => .releaseCure r.finalMaturity r.effectiveTarget
            | 2, _ => .releaseHistory r.finalAge r.hotMinutes r.outages r.extensions
            | _, 0 => .releaseDose r.dryAsh r.cement r.water
            | _, _ => .releaseLoad r.additive r.netMass r.wetAsh) →
          exec (.qrel st args) s = .next (answered st 0x61 .ok results s))

/-- R57, R9 and R114, R110, R12: an expiry taken on its own row. A pour window at its last second voids the line's lot and the line, drops the
permit and raises DOSE_VOID for the line's mixer. The claims at their last second lapse together: their records go, their lots are
CURED at the queue's head in claim order, and CLAIM_EXPIRED and QUEUE_READY become pending for the loadout station. With no window
or claim at its last second, such an event changes nothing (the model's choice: log entries 4 and 5). -/
def Obligations.ExpiriesOnTheirOwn : Prop :=
  ∀ s : State, s.phase = .inService →
    (∀ n : Line, s.lines[n].endsNext = false → exec (.pourWindowExpiry n) s = .next s)
    ∧ (∀ (n : Line) (serial remaining warning : Nat), s.lines[n] = .dosed serial remaining warning → remaining ≤ 1 →
      exec (.pourWindowExpiry n) s = .next (raise (mixerStation n) .doseVoid
        { s with
          lots := s.lots.map fun l => if l.serial = serial then { l with state := .void } else l
          lines := s.lines.set n (.void serial)
          permits := s.permits.set n false }))
    ∧ ((∀ c ∈ s.claims, 1 < c.remaining) → exec .claimExpiry s = .next s)
    ∧ (HallLaw s → (∃ c ∈ s.claims, c.remaining ≤ 1) →
      ∃ t : State, exec .claimExpiry s = .next t
        ∧ t.claims = s.claims.filter (1 < ·.remaining)
        ∧ t.queue = (s.claims.filter (·.remaining ≤ 1)).map (·.serial) ++ s.queue
        ∧ t.lots = s.lots.map (fun l => if l.state = .claimed ∧ (∃ c ∈ s.claims, c.serial = l.serial ∧ c.remaining ≤ 1)
          then { l with state := .cured } else l)
        ∧ (∀ (st : Station) (k : AttnKind), t.pendingKinds[st].has k
          = (s.pendingKinds[st].has k || decide (st = loadoutStation ∧ (k = .claimExpired ∨ k = .queueReady))))
        ∧ NoticesFollow s t
        ∧ t = { s with
          claims := t.claims, queue := t.queue, lots := t.lots, pendingKinds := t.pendingKinds, slots := t.slots })

/-! ## Quality interventions (chapter 8) -/

/-- R127 to R129, R109, R119: HOLD by the lot's state: WRONG_STATE, a hold already present left as it is, a hold made and the lot out of the
queue, or the claim revoked and the lot CURED and held. -/
def Obligations.HoldHoldsTheLot : Prop :=
  ∀ (args : List Byte) (s : State), TakesAtOnce supervisorStation s → argsFit args = true →
    (args.length < 3 → exec (.hold 6 args) s = .next (answered 6 0x40 .badArgument .none s))
    ∧ ∀ serial : Nat, serial? args = some serial →
      (s.lot? serial = none → exec (.hold 6 args) s = .next (answered 6 0x40 .unknownLot .none s))
      ∧ ∀ l : Lot, s.lot? serial = some l →
        (l.state = .dosed ∨ l.state = .void ∨ l.state = .rejected →
          exec (.hold 6 args) s = .next (answered 6 0x40 .wrongState .none s))
        ∧ (l.state = .curing ∨ l.state = .overdue ∨ l.state = .cured →
          (∀ reason : HoldReason, l.hold = some reason →
            exec (.hold 6 args) s = .next (answered 6 0x40 .ok (.held serial l.state (some reason)) s))
          ∧ (l.hold = none → exec (.hold 6 args) s
            = .next (answered 6 0x40 .ok (.held serial l.state (some .supervisor))
              (reportCondition .queueReady (!(s.queue.filter (· ≠ serial)).isEmpty)
                { s with
                  lots := s.lots.map fun x => if x.serial = serial then { x with hold := some .supervisor } else x
                  queue := s.queue.filter (· ≠ serial) }))))
        ∧ (l.state = .claimed → exec (.hold 6 args) s
          = .next (answered 6 0x40 .ok (.held serial .cured (some .supervisor)) (raise loadoutStation .claimRevoked
            { s with
              lots := s.lots.map fun x => if x.serial = serial then { x with state := .cured, hold := some .supervisor } else x
              claims := s.claims.filter (·.serial ≠ serial) })))

/-- R127, R130, R108: UNHD's refusals, and the end of a hold, at which a CURED front lot joins the queue's tail. -/
def Obligations.UnhdReleasesTheHold : Prop :=
  ∀ (args : List Byte) (s : State), TakesAtOnce supervisorStation s → argsFit args = true →
    (args.length < 3 → exec (.unhd 6 args) s = .next (answered 6 0x41 .badArgument .none s))
    ∧ ∀ serial : Nat, serial? args = some serial →
      (s.lot? serial = none → exec (.unhd 6 args) s = .next (answered 6 0x41 .unknownLot .none s))
      ∧ ∀ l : Lot, s.lot? serial = some l →
        (l.state = .dosed ∨ l.state = .void ∨ l.state = .claimed ∨ l.state = .rejected ∨ l.hold = none →
          exec (.unhd 6 args) s = .next (answered 6 0x41 .wrongState .none s))
        ∧ (l.hold ≠ none → s.queue.contains serial = false →
          (l.state = .curing ∨ l.state = .overdue ∨ (l.state = .cured ∧ l.place.map (·.position) ≠ some 0) →
            exec (.unhd 6 args) s = .next (answered 6 0x41 .ok (.unheld serial l.state s.queue.length)
              { s with lots := s.lots.map fun x => if x.serial = serial then { x with hold := none } else x }))
          ∧ (l.state = .cured → l.place.map (·.position) = some 0 →
            exec (.unhd 6 args) s = .next (answered 6 0x41 .ok (.unheld serial .cured (s.queue.length + 1))
              (reportCondition .queueReady true
                { s with
                  lots := s.lots.map fun x => if x.serial = serial then { x with hold := none } else x
                  queue := s.queue ++ [serial] }))))

/-- R127, R132, R133, R137, R138: RJCT voids a DOSED lot with its line, and freezes a lot in its lane as REJECTED, out of the queue and of any
claim, with the conditions judged again that it can change. -/
def Obligations.RjctRejectsTheLot : Prop :=
  ∀ (args : List Byte) (s : State), TakesAtOnce supervisorStation s → argsFit args = true →
    (args.length < 3 → exec (.rjct 6 args) s = .next (answered 6 0x42 .badArgument .none s))
    ∧ ∀ serial : Nat, serial? args = some serial →
      (s.lot? serial = none → exec (.rjct 6 args) s = .next (answered 6 0x42 .unknownLot .none s))
      ∧ ∀ l : Lot, s.lot? serial = some l →
        (l.state = .void ∨ l.state = .rejected → exec (.rjct 6 args) s = .next (answered 6 0x42 .wrongState .none s))
        ∧ (l.state = .dosed → exec (.rjct 6 args) s
          = .next (answered 6 0x42 .ok (.rejected serial .dosed .void) (raise (mixerStation l.line) .doseVoid
            { s with
              lots := s.lots.map fun x => if x.serial = serial then { x with state := .void } else x
              lines := s.lines.set l.line (.void serial)
              permits := s.permits.set l.line false })))
        ∧ ∀ r : State, r = reportCondition .queueReady (!(s.queue.filter (· ≠ serial)).isEmpty)
            { s with
              lots := s.lots.map fun x => if x.serial = serial then { x with state := .rejected, hold := none } else x
              queue := s.queue.filter (· ≠ serial) } →
          (l.state = .curing ∨ l.state = .cured → exec (.rjct 6 args) s
            = .next (answered 6 0x42 .ok (.rejected serial l.state .rejected)
              (if l.place.map (·.position) = some 0 then reportCondition .rejectedAtFront r.anyRejectedAtFront r else r)))
          ∧ (l.state = .overdue → exec (.rjct 6 args) s
            = .next (answered 6 0x42 .ok (.rejected serial .overdue .rejected) (reportCondition .overduePresent r.anyOverdue
              (if l.place.map (·.position) = some 0 then reportCondition .rejectedAtFront r.anyRejectedAtFront r else r))))
          ∧ (l.state = .claimed → l.place.map (·.position) = some 0 → exec (.rjct 6 args) s
            = .next (answered 6 0x42 .ok (.rejected serial .claimed .rejected)
              (reportCondition .rejectedAtFront r.anyRejectedAtFront
                (raise loadoutStation .claimRevoked { r with claims := r.claims.filter (·.serial ≠ serial) }))))

/-- R134, R73, R74: CLRB's refusals, the removal of a REJECTED front lot with the lots behind it moving forward, and the hand-over of the new
front: it joins the queue's tail if it is CURED and unheld, and REJECTED_AT_FRONT is judged again. -/
def Obligations.ClrbClearsTheFront : Prop :=
  (∀ (args : List Byte) (s : State), TakesAtOnce supervisorStation s → argsFit args = true →
    (args = [] → exec (.clrb 6 args) s = .next (answered 6 0x43 .badArgument .none s))
    ∧ ∀ bay : Nat, oneByte? args = some bay →
      (15 < bay → exec (.clrb 6 args) s = .next (answered 6 0x43 .badArgument .none s))
      ∧ ∀ b : Bay, b.val = bay →
        (s.lanes[b].lots = [] → exec (.clrb 6 args) s = .next (answered 6 0x43 .bayEmpty .none s))
        ∧ ∀ (front : Nat) (behind : List Nat) (l : Lot), s.lanes[b].lots = front :: behind → s.lot? front = some l →
          (l.state ≠ .rejected → exec (.clrb 6 args) s = .next (answered 6 0x43 .notRejected .none s))
          ∧ (l.state = .rejected → exec (.clrb 6 args) s
            = .next (answered 6 0x43 .ok (.cleared b front behind.length) (handOver b (removeFront b s)))))
  ∧ (∀ (b : Bay) (front : Nat) (behind : List Nat) (s : State), s.lanes[b].lots = front :: behind →
    removeFront b s = { s with
      lanes := s.lanes.set b { s.lanes[b] with lots := behind }
      lots := (s.lots.filter (·.serial ≠ front)).map fun x => if x.serial ∈ behind
        then { x with place := x.place.map fun p => { p with position := p.position - 1 } } else x })
  ∧ ∀ (b : Bay) (s : State),
    (∀ (front : Nat) (behind : List Nat) (l : Lot), s.lanes[b].lots = front :: behind → s.lot? front = some l → l.state = .cured →
      l.hold = none → front ∉ s.queue →
      handOver b s = reportRejected (reportCondition .queueReady true { s with queue := s.queue ++ [front] }))
    ∧ (∀ (front : Nat) (behind : List Nat) (l : Lot), s.lanes[b].lots = front :: behind → s.lot? front = some l →
      (l.state ≠ .cured ∨ l.hold ≠ none) → handOver b s = reportRejected (reportQueue s))
    ∧ (s.lanes[b].lots = [] → handOver b s = reportRejected (reportQueue s))

/-- R127, R135, R138: EXTD's refusals, and the extension: the maximum age and the count saturate, EXTENDED is set, and an OVERDUE lot is CURING
again with OVERDUE_PRESENT judged again. -/
def Obligations.ExtdExtendsTheLot : Prop :=
  ∀ (args : List Byte) (s : State), TakesAtOnce supervisorStation s → argsFit args = true →
    (args.length < 5 → exec (.extd 6 args) s = .next (answered 6 0x44 .badArgument .none s))
    ∧ ∀ serial minutes : Nat, extension? args = some (serial, minutes) →
      (minutes < 60 ∨ 10080 < minutes → exec (.extd 6 args) s = .next (answered 6 0x44 .badArgument .none s))
      ∧ (60 ≤ minutes → minutes ≤ 10080 →
        (s.lot? serial = none → exec (.extd 6 args) s = .next (answered 6 0x44 .unknownLot .none s))
        ∧ ∀ l : Lot, s.lot? serial = some l →
          (l.state ≠ .curing → l.state ≠ .overdue → exec (.extd 6 args) s = .next (answered 6 0x44 .wrongState .none s))
          ∧ ∀ r : State, r = { s with
              lots := s.lots.map fun x => if x.serial = serial
                then { x with
                  state := .curing, maxAge := min 65535 (x.maxAge + minutes), extensions := min 255 (x.extensions + 1)
                  extended := true } else x } →
            (l.state = .curing → exec (.extd 6 args) s
              = .next (answered 6 0x44 .ok (.extended serial (min 65535 (l.maxAge + minutes)) .curing) r))
            ∧ (l.state = .overdue → exec (.extd 6 args) s
              = .next (answered 6 0x44 .ok (.extended serial (min 65535 (l.maxAge + minutes)) .curing)
                (reportCondition .overduePresent r.anyOverdue r))))

/-! ## Attention (chapter 10) -/

/-- R160 to R162: ATRD answers the sets and removes RESTARTED alone; ATCL removes the named latched kinds but RESTARTED; ATMK makes the mask the
named set less RESTARTED and the kinds the station does not receive. -/
def Obligations.AttentionCommands : Prop :=
  ∀ (st : Station) (args : List Byte) (s : State), TakesAtOnce st s → argsFit args = true →
    (∃ left : KindSet, (∀ k : AttnKind, left.has k = (s.pendingKinds[st].has k && decide (k ≠ .restarted)))
      ∧ exec (.atrd st args) s = .next (answered st 0x70 .ok (.attention s.pendingKinds[st] s.masks[st] s.startCause)
        { s with pendingKinds := s.pendingKinds.set st left }))
    ∧ (kindSet? args = none → exec (.atcl st args) s = .next (answered st 0x71 .badArgument .none s)
      ∧ exec (.atmk st args) s = .next (answered st 0x72 .badArgument .none s))
    ∧ ∀ named : KindSet, kindSet? args = some named →
      (∃ left : KindSet, (∀ k : AttnKind, left.has k
          = (s.pendingKinds[st].has k && !(named.has k && decide (k.isCondition = false ∧ k ≠ .restarted))))
        ∧ exec (.atcl st args) s = .next (answered st 0x71 .ok (.kinds left)
          { s with pendingKinds := s.pendingKinds.set st left }))
      ∧ ∃ mask : KindSet, (∀ k : AttnKind, mask.has k = (named.has k && decide (receives st k = true ∧ k ≠ .restarted)))
        ∧ exec (.atmk st args) s = .next (answered st 0x72 .ok (.kinds mask) { s with masks := s.masks.set st mask })

/-- R157, R158: a report makes the kind pending for its stations and no other; a station for which it was not pending and whose mask does not
hold it has its notice slot marked, and no other slot is; a condition turned false ceases to be pending and marks nothing. -/
def Obligations.ReportsMarkNotices : Prop :=
  (∀ (who : Station → Bool) (k : AttnKind) (s : State),
    (∀ (st : Station) (j : AttnKind),
      (raiseFor who k s).pendingKinds[st].has j = (s.pendingKinds[st].has j || (who st && decide (j = k))))
    ∧ (∀ st : Station, (raiseFor who k s).slots[noticeSlot st]
      = if who st = true ∧ s.pendingKinds[st].has k = false ∧ s.masks[st].has k = false
        then s.slots[noticeSlot st].mark else s.slots[noticeSlot st])
    ∧ (∀ i : SlotNo, (∀ st : Station, i ≠ noticeSlot st) → (raiseFor who k s).slots[i] = s.slots[i])
    ∧ raiseFor who k s = { s with pendingKinds := (raiseFor who k s).pendingKinds, slots := (raiseFor who k s).slots })
  ∧ (∀ (k : AttnKind) (s : State), reportCondition k true s = raiseFor (fun st => receives st k) k s)
  ∧ ∀ (k : AttnKind) (s : State),
    (∀ (st : Station) (j : AttnKind), (reportCondition k false s).pendingKinds[st].has j
      = (s.pendingKinds[st].has j && !(receives st k && decide (j = k))))
    ∧ reportCondition k false s = { s with pendingKinds := (reportCondition k false s).pendingKinds }

/-! ## The plant link (chapter 9) -/

/-- R142, R151, R153, R154: a remote request marks its standing frame's slot; of the other frames on the bus, those that Table 9–2,
over the base that the sampled straps select (Table 9–1, R141), makes a command or a remote request act as one, and every other
changes nothing. -/
def Obligations.OtherFramesOnTheBus : Prop :=
  (∀ (k : StandingNo) (s : State),
    (s.link = .onBus → exec (.remoteRequest k) s
      = .next { s with slots := s.slots.set (standingSlot k) s.slots[standingSlot k].mark })
    ∧ (s.link ≠ .onBus → exec (.remoteRequest k) s = .next s))
  ∧ (SlotState.empty.mark = .pending ∧ SlotState.pending.mark = .pending ∧ SlotState.sending.mark = .sendingMarked
    ∧ SlotState.sendingMarked.mark = .sendingMarked)
  ∧ ∀ (f : RxFrame) (s : State) (base : Nat),
    base = (match s.straps.sa1, s.straps.sa0 with | false, false => 0x100 | false, true => 0x200 | true, false => 0x300 | true, true => 0x400) →
    (f.busError = true ∨ f.extended = true → exec (.ignoredFrame f) s = .next s)
    ∧ (f.remote = true → (f.ident < base + 0x30 ∨ base + 0x41 < f.ident) → exec (.ignoredFrame f) s = .next s)
    ∧ (f.remote = false → (f.ident < base ∨ base + 6 < f.ident) → exec (.ignoredFrame f) s = .next s)
    ∧ (f.busError = false → f.extended = false → f.remote = true → ∀ k : StandingNo, f.ident = base + 0x30 + k.val →
      exec (.ignoredFrame f) s = exec (.remoteRequest k) s)
    ∧ (f.busError = false → f.extended = false → f.remote = false → ∀ st : Station, f.ident = base + st.val →
      exec (.ignoredFrame f) s = exec (.commandFrameArrival st f.data) s)

/-- R152, R153, R86, R125, R150, R159: on-bus with the transmitter free, an attempt starts on the lowest pending slot with the frame composed from the state as it
stands, and what that frame carries. -/
def Obligations.AttemptSendsLowestSlot : Prop :=
  (∀ (i : SlotNo) (s : State), s.link = .onBus → s.transmitter = none → s.slots[i] = .pending →
    (∀ j : SlotNo, j < i → s.slots[j] ≠ .pending) →
    exec .attemptStart s = .next { s with slots := s.slots.set i .sending, transmitter := some ⟨i, compose i s⟩ })
  ∧ ∀ s : State,
    (∀ (st : Station) (a : Answer), s.answers[st] = some a → compose (answerSlot st) s = .answer st a)
    ∧ (∀ st : Station, compose (noticeSlot st) s
      = .notice st (s.pendingKinds[st] &&& ~~~ s.masks[st]) s.pendingKinds[st] s.startCause)
    ∧ compose (standingSlot 0) s = .status s.startCause s.timeValid s.haltRegistered s.lots.length s.queue.length s.claims.length
      s.releaseLog.length
    ∧ (s.queue = [] → compose (standingSlot 1) s = .queueHead none none 0)
    ∧ (∀ (serial : Nat) (behind : List Nat) (l : Lot) (p : Place), s.queue = serial :: behind → s.lot? serial = some l →
      l.place = some p → compose (standingSlot 1) s = .queueHead (some serial) (some p.bay) s.queue.length)
    ∧ ∀ b : Bay, compose (standingSlot ⟨b.val + 2, by omega⟩) s
      = .lane b s.lanes[b].locked (s.lanes[b].reading.isNone || s.lanes[b].stale) s.lanes[b].capacity s.lanes[b].lots.length
        (s.lanes[b].reading.map (·.temperature)) s.lanes[b].lots.head?

/-- R152, R150, R151: a lost attempt returns its slot to pending; a completed one empties its slot, or leaves it pending where it was marked
again, and a completed answer takes the command waiting in the station's inbox. How far the error counts fall is an operand
(log entry 6), as are the levels at which the straps then stand (log entry 8); the straps as sampled stay (R141). -/
def Obligations.AttemptsEnd : Prop :=
  ∀ (s : State) (att : Attempt) (fall : ErrorFall) (straps : Straps), s.link = .onBus → s.transmitter = some att →
    ((s.slots[att.slot] = .sending ∨ s.slots[att.slot] = .sendingMarked) →
      exec .arbitrationLoss s = .next { s with slots := s.slots.set att.slot .pending, transmitter := none })
    ∧ (7 ≤ att.slot.val → (s.slots[att.slot] = .sending ∨ s.slots[att.slot] = .sendingMarked) →
      exec (.attemptCompletion fall straps) s = .next { s with
        slots := s.slots.set att.slot (if s.slots[att.slot] = .sending then .empty else .pending)
        transmitter := none
        strapPins := straps
        transmitErrors := s.transmitErrors - fall.transmit
        receiveErrors := s.receiveErrors - fall.receive })
    ∧ ∀ (st : Station) (a : Answer) (left : State), att.slot = answerSlot st → s.slots[answerSlot st] = .sending →
      s.answers[st] = some a → ¬ (st = supervisorStation ∧ a.status = .ok ∧ (a.code = 0x4E ∨ a.code = 0x4F)) →
      left = { s with
        slots := s.slots.set (answerSlot st) .empty
        transmitter := none
        strapPins := straps
        transmitErrors := s.transmitErrors - fall.transmit
        receiveErrors := s.receiveErrors - fall.receive
        answers := s.answers.set st none } →
      (s.inboxes[st] = none → exec (.attemptCompletion fall straps) s = .next left)
      ∧ ∀ data : List Byte, s.inboxes[st] = some data → dataFits data = true →
        exec (.attemptCompletion fall straps) s
          = exec (.commandFrameArrival st data) { left with inboxes := left.inboxes.set st none }

/-- R154, R152: a bus error fails the attempt under way and raises the error counts (by how much is an operand: log entry 6); past 255 the
interface is bus-off, sends and receives nothing, and comes back on-bus with its counts at 0. That a bus error with no attempt
under way raises the counts too, and may bring bus-off, is DEDUCED (log entry 17). -/
def Obligations.BusErrorsAndBusOff : Prop :=
  (∀ (s : State) (att : Attempt) (tecRise recRise : Nat), s.link = .onBus → s.transmitter = some att →
    (s.slots[att.slot] = .sending ∨ s.slots[att.slot] = .sendingMarked) →
    exec (.busError tecRise recRise) s = .next { s with
      slots := s.slots.set att.slot .pending
      transmitter := none
      transmitErrors := s.transmitErrors + tecRise
      receiveErrors := s.receiveErrors + recRise
      link := if 255 < s.transmitErrors + tecRise then .busOff else .onBus })
  ∧ (∀ (s : State) (tecRise recRise : Nat), s.link = .onBus → s.transmitter = none →
    exec (.busError tecRise recRise) s = .next { s with
      transmitErrors := s.transmitErrors + tecRise
      receiveErrors := s.receiveErrors + recRise
      link := if 255 < s.transmitErrors + tecRise then .busOff else .onBus })
  ∧ ∀ s : State, s.link = .busOff →
    exec .busOffRecovery s = .next { s with link := .onBus, transmitErrors := 0, receiveErrors := 0 }
    ∧ exec .attemptStart s = .next s
    ∧ (∀ (st : Station) (data : List Byte), exec (.commandFrameArrival st data) s = .next s)
    ∧ ∀ k : StandingNo, exec (.remoteRequest k) s = .next s

/-! ## Starts (chapter 11) -/

/-- R164 to R166, R141, R155, R163: the beginning of a start, spelled out, and the events that bring it about or hold the part stopped; main power lost keeps the
retained state, and the retention-lost latch is set by a fall of VBAK while main power is absent and at no other time. What the
part's unretained state holds without power, and the emptying of the attention sets at once, are the model's choice (log
entries 11 and 12), as are the straps coming in with these events (8), the qualification timer and the self-test result under a
registered reset (21 and 24), a loss of main power with VBAK already low setting no latch (23), and what unretained state that step 1 does not name
holds until a later step sets it (26). -/
def Obligations.StartsBegin : Prop :=
  (∀ (cause : StartCause) (s : State), beginStart cause s = { s with
    phase := .starting, selfTestPassed := none, decidedCause := cause, straps := s.strapPins, ready := false
    permits := Vector.replicate 4 false, link := .offBus, inboxes := Vector.replicate 7 none
    lostMarks := Vector.replicate 7 false, slots := Vector.replicate 32 .empty, answers := Vector.replicate 7 none
    transmitter := none, pendingKinds := Vector.replicate 7 0, masks := Vector.replicate 7 0 })
  ∧ (∀ (straps : Straps) (s : State), s.phase = .unpowered → exec (.powerOn straps) s
    = .next (beginStart (if s.retentionLost then .cold else .warm) { s with strapPins := straps }))
  ∧ (∀ (straps : Straps) (s : State), s.phase = .heldReset → exec (.resetRelease straps) s
    = .next (beginStart (if s.retentionLost then .cold else .warm) { s with strapPins := straps }))
  ∧ (∀ s : State, s.phase ≠ .unpowered → exec .resetAssertionRegistered s = .next { s with
    phase := .heldReset, selfTestPassed := none, ready := false
    permits := Vector.replicate 4 false, link := .offBus, inboxes := Vector.replicate 7 none
    lostMarks := Vector.replicate 7 false, slots := Vector.replicate 32 .empty, answers := Vector.replicate 7 none
    transmitter := none, pendingKinds := Vector.replicate 7 0, masks := Vector.replicate 7 0 })
  ∧ (∀ s : State, s.phase ≠ .unpowered → ∃ t : State, exec .mainPowerLoss s = .next t ∧ t.phase = .unpowered
    ∧ t.lots = s.lots ∧ t.nextSerial = s.nextSerial ∧ t.recipes = s.recipes ∧ t.limits = s.limits ∧ t.lines = s.lines
    ∧ (∀ b : Bay, t.lanes[b].capacity = s.lanes[b].capacity ∧ t.lanes[b].locked = s.lanes[b].locked
      ∧ t.lanes[b].lots = s.lanes[b].lots)
    ∧ t.staleLimit = s.staleLimit ∧ t.plantMinute = s.plantMinute ∧ t.queue = s.queue ∧ t.claims = s.claims
    ∧ t.claimTimeout = s.claimTimeout ∧ t.releaseLog = s.releaseLog ∧ t.retentionLost = s.retentionLost
    ∧ t.ready = false ∧ t.permits = Vector.replicate 4 false ∧ t.link = .offBus ∧ t.phRaw = s.phRaw ∧ t.strapPins = s.strapPins)
  ∧ (∀ s : State, s.phase = .unpowered → exec .vbakBelowRetention s = .next { s with retentionLost := true })
  ∧ ∀ s : State, s.phase ≠ .unpowered → exec .vbakBelowRetention s = .next s

/-- R168: RSTW and RSTC are answered OK with no results and change nothing else; the start begins at the completion of that answer, with cause
supervisor-warm or supervisor-cold, samples the straps as they stand then (R141), and takes no waiting command. -/
def Obligations.RestartFollowsItsAnswer : Prop :=
  (∀ (args : List Byte) (s : State), TakesAtOnce supervisorStation s → argsFit args = true →
    exec (.rstw 6 args) s = .next (answered 6 0x4E .ok .none s) ∧ exec (.rstc 6 args) s = .next (answered 6 0x4F .ok .none s))
  ∧ ∀ (s : State) (att : Attempt) (a : Answer) (fall : ErrorFall) (straps : Straps), s.link = .onBus → s.transmitter = some att →
    att.slot = answerSlot supervisorStation → s.answers[supervisorStation] = some a → a.status = .ok →
    (a.code = 0x4E → exec (.attemptCompletion fall straps) s = .next (beginStart .supervisorWarm
      { s with strapPins := straps, transmitErrors := s.transmitErrors - fall.transmit, receiveErrors := s.receiveErrors - fall.receive }))
    ∧ (a.code = 0x4F → exec (.attemptCompletion fall straps) s = .next (beginStart .supervisorCold
      { s with strapPins := straps, transmitErrors := s.transmitErrors - fall.transmit, receiveErrors := s.receiveErrors - fall.receive }))

/-- R167, R166 step 1, R90, R66: a failed self-test puts the part in FAULT and changes nothing else; and in FAULT, as from the beginning of a
start to its completion, under a held reset and without power, no command, remote request or event of the time base is taken, no
attempt is started and no level of PH is registered. A self-test result with no start under way changes nothing (the model's choice:
log entry 4). -/
def Obligations.FaultIsSilent : Prop :=
  (∀ s : State, s.phase = .starting → exec (.selfTest false) s = .next { s with phase := .fault, selfTestPassed := some false })
  ∧ (∀ s : State, s.phase = .fault ∨ s.phase = .starting ∨ s.phase = .heldReset ∨ s.phase = .unpowered →
    exec .secondEvent s = .next s ∧ exec .intervalEvent s = .next s
    ∧ (∀ n : Line, exec (.pourWindowExpiry n) s = .next s) ∧ exec .claimExpiry s = .next s
    ∧ exec .haltAssertionRegistered s = .next s ∧ exec .haltReleaseRegistered s = .next s
    ∧ (LinkLaw s →
      (∀ (st : Station) (data : List Byte), exec (.commandFrameArrival st data) s = .next s)
      ∧ (∀ k : StandingNo, exec (.remoteRequest k) s = .next s) ∧ (∀ f : RxFrame, exec (.ignoredFrame f) s = .next s)
      ∧ exec .attemptStart s = .next s))
  ∧ ∀ (s : State) (passed : Bool), s.phase ≠ .starting → exec (.selfTest passed) s = .next s

/-- What a completed start leaves, warm or cold, beside what its actions set: the halt level of PH, READY, the time base at zero, the link
on-bus with its error counts at 0, its cause, and the reports of R163 with every notice slot pending. -/
def Obligations.StartsComplete : Prop :=
  ∀ s : State, s.phase = .starting → (∀ i : SlotNo, s.slots[i] = .empty) →
    ∃ t : State, exec (.selfTest true) s = .next t
      ∧ t.phase = .inService ∧ t.ready = true ∧ t.selfTestPassed = some true ∧ t.startCause = s.decidedCause
      ∧ t.haltRegistered = s.phRaw ∧ t.qualifying = false ∧ t.timeValid = false
      ∧ t.divider = 0 ∧ t.secondInMinute = 0 ∧ t.link = .onBus ∧ t.transmitErrors = 0 ∧ t.receiveErrors = 0
      ∧ (∀ n : Line, t.permits[n] = false)
      ∧ (∀ b : Bay, t.lanes[b].reading = none ∧ t.lanes[b].stale = false)
      ∧ (∀ st : Station, t.masks[st] = 0)
      ∧ (∀ (st : Station) (k : AttnKind), t.pendingKinds[st].has k = (receives st k && match k with
        | .restarted | .bayStale | .timeUnset => true
        | .haltActive => s.phRaw
        | .doseVoid => match s.lines[lineOf st] with
          | .dosed _ _ _ => !s.decidedCause.isCold
          | .idle | .void _ => false
        | .queueReady => !t.queue.isEmpty
        | .overduePresent => t.anyOverdue
        | .rejectedAtFront => t.anyRejectedAtFront
        | .pourLate | .claimExpired | .claimRevoked | .probeFault | .hotHold => false))
      ∧ ∀ i : SlotNo, t.slots[i] = if 7 ≤ i.val ∧ i.val < 14 then .pending else .empty

/-- R17, R69, R87, R106, R126, R169: the warm actions: DOSED lots and lines VOID, claims returned to the queue's head in claim order, outages counted, and
everything else retained as it stood. -/
def Obligations.WarmStartKeepsTheHall : Prop :=
  ∀ s : State, s.phase = .starting → s.decidedCause.isCold = false →
    ∃ t : State, exec (.selfTest true) s = .next t
      ∧ t.lots = s.lots.map (fun l => match l.state with
        | .dosed => { l with state := .void }
        | .claimed => { l with state := .cured, outages := min 255 (l.outages + 1), interrupted := true }
        | .curing | .overdue | .cured => { l with outages := min 255 (l.outages + 1), interrupted := true }
        | .void | .rejected => l)
      ∧ (∀ n : Line, t.lines[n] = match s.lines[n] with
        | .dosed serial _ _ => .void serial
        | other => other)
      ∧ t.queue = s.claims.map (·.serial) ++ s.queue ∧ t.claims = []
      ∧ (∀ b : Bay, t.lanes[b] = { s.lanes[b] with reading := none, stale := false })
      ∧ t.nextSerial = s.nextSerial ∧ t.recipes = s.recipes ∧ t.limits = s.limits ∧ t.staleLimit = s.staleLimit
      ∧ t.plantMinute = s.plantMinute ∧ t.claimTimeout = s.claimTimeout ∧ t.releaseLog = s.releaseLog
      ∧ t.retentionLost = s.retentionLost

/-- R18, R22, R50, R69, R87, R106, R126, R169: the cold-start value of every retained block, the retention-lost latch cleared. -/
def Obligations.ColdStartEmptiesTheHall : Prop :=
  (∀ s : State, s.phase = .starting → s.decidedCause.isCold = true →
    ∃ t : State, exec (.selfTest true) s = .next t
      ∧ t.lots = [] ∧ t.nextSerial = 1 ∧ t.queue = [] ∧ t.claims = [] ∧ t.releaseLog = [] ∧ t.claimTimeout = 900
      ∧ t.staleLimit = 10 ∧ t.plantMinute = 0 ∧ t.retentionLost = false
      ∧ (∀ k : RecipeNo, t.recipes[k] = Recipe.coldStart)
      ∧ (∀ n : Line, t.lines[n] = .idle ∧ t.limits[n] = ⟨1500, 1200, 100⟩)
      ∧ ∀ b : Bay, t.lanes[b] = ⟨4, false, [], none, false⟩)
  ∧ Recipe.coldStart.enabled = false
  ∧ allFields.map Recipe.coldStart.get
    = [15, 0, 7, 0, 600, 300, 350, 0, 100, 100, 1000, -100, 600, 4320, 20160, 240, 2700, 600]

/-! ## Laws of the whole part -/

/-- R65: every step keeps each feed permit asserted exactly when its line is DOSED, the halt is not registered and READY is asserted. -/
def Obligations.StepsKeepPermits : Prop :=
  ∀ s t : State, PermitLaw s → step s = .next t → PermitLaw t

/-- R21, R27, R47, R70, R88, R91: every step keeps the recipes, the parameters, the time base and the readings in their ranges, and every enabled
recipe consistent. -/
def Obligations.StepsKeepRanges : Prop :=
  ∀ s t : State, RecipeLaw s → ParameterLaw s → TimeLaw s → ReadingLaw s → step s = .next t →
    RecipeLaw t ∧ ParameterLaw t ∧ TimeLaw t ∧ ReadingLaw t

/-- R149 to R155, R165 to R167: every step keeps the link's inboxes, slots, answers and transmitter agreeing with each other and with the phase, READY asserted
exactly in service, and the retention-lost latch clear in service. -/
def Obligations.StepsKeepLinkAndPhase : Prop :=
  ∀ s t : State, LinkLaw s → PhaseLaw s → step s = .next t → LinkLaw t ∧ PhaseLaw t

/-- R156: every step keeps each pending set and mask within the kinds its station receives, RESTARTED out of every mask. -/
def Obligations.StepsKeepAttention : Prop :=
  ∀ s t : State, AttentionLaw s → step s = .next t → AttentionLaw t

/-- R2, R4, R54, R71, R102, R107, R111: every step keeps the laws of lots, lines, lanes, queue and claims. -/
def Obligations.StepsKeepTheHall : Prop :=
  ∀ s t : State, HallLaw s → step s = .next t → HallLaw t

/-- R157: every step keeps each condition kind pending, in service, exactly while its condition is true. -/
def Obligations.StepsKeepConditions : Prop :=
  ∀ s t : State, HallLaw s → ConditionLaw s → step s = .next t → ConditionLaw t

/-- R121, R173: every step keeps the release log within 32 records, each with its maturity at its target, its flags agreeing with its counts,
and its truck and net mass in range. -/
def Obligations.StepsKeepTheLog : Prop :=
  ∀ s t : State, HallLaw s → LogLaw s → step s = .next t → LogLaw t

/-- R3, R16, R33: a lot that lives through a step keeps its snapshot and its dose, loses no age, maturity, hot minutes or count and no flag,
and changes its state only along a row of Table 1–3. -/
def Obligations.LotsOnlyGrow : Prop :=
  ∀ s t : State, HallLaw s → step s = .next t → ∀ l ∈ s.lots, ∀ m ∈ t.lots, m.serial = l.serial →
    (m.line = l.line ∧ m.source = l.source ∧ m.chlorideClass = l.chlorideClass ∧ m.recipe = l.recipe
      ∧ m.effectiveTarget = l.effectiveTarget ∧ m.datum = l.datum ∧ m.cap = l.cap ∧ m.minAge = l.minAge
      ∧ m.hotLimit = l.hotLimit ∧ m.wetAsh = l.wetAsh ∧ m.dryAsh = l.dryAsh ∧ m.cement = l.cement ∧ m.water = l.water
      ∧ m.additive = l.additive ∧ m.wet = l.wet)
    ∧ (l.maxAge ≤ m.maxAge ∧ l.age ≤ m.age ∧ l.maturity ≤ m.maturity ∧ l.hotMinutes ≤ m.hotMinutes ∧ l.outages ≤ m.outages
      ∧ l.extensions ≤ m.extensions)
    ∧ ((l.extended = true → m.extended = true) ∧ (l.interrupted = true → m.interrupted = true)
      ∧ (l.hotHeld = true → m.hotHeld = true))
    ∧ (m.state = l.state ∨ (l.state, m.state) ∈ [(LotState.dosed, LotState.curing), (.dosed, .void), (.curing, .cured),
      (.curing, .overdue), (.overdue, .cured), (.overdue, .curing), (.cured, .claimed), (.claimed, .cured), (.curing, .rejected),
      (.overdue, .rejected), (.cured, .rejected), (.claimed, .rejected)])

/-- R170, R171: the live lot count is the sum of the lanes' occupancies and the lines that are DOSED or VOID, and the queue length and the
claim count together are the number of lanes whose front lot is CURED and unheld or CLAIMED. -/
def Obligations.CountsAddUp : Prop :=
  ∀ s : State, HallLaw s → liveLotsAddUp s ∧ queueAndClaimsAddUp s

/-- The state after reset meets every law that the steps keep. What stands there beyond the cold-start values of the spec is the
model's choice (log entry 1). -/
def Obligations.ResetMeetsTheLaws : Prop :=
  PermitLaw State.reset ∧ RecipeLaw State.reset ∧ ParameterLaw State.reset ∧ TimeLaw State.reset ∧ ReadingLaw State.reset
    ∧ LinkLaw State.reset ∧ PhaseLaw State.reset ∧ AttentionLaw State.reset ∧ HallLaw State.reset ∧ ConditionLaw State.reset
    ∧ LogLaw State.reset
end

