-- ==== Sys2Proof/Laws/Link.lean ====
section
/-! SUPPORT. The taking of a command that finds its inbox and its answer slot empty, once for all commands: the arrival of its frame is the
judgement by its owner and the answer. -/

namespace Sys2Proof.Machine

open Sys2Proof

@[simp] theorem commandOf?_byte (c : CommandCode) : commandOf? c.byte = some c := by cases c <;> rfl

@[simp] theorem lineOf_mixerStation (n : Line) : lineOf (mixerStation n) = n := by
  apply Fin.ext
  simp only [lineOf]
  omega

@[simp] theorem roleOf_mixerStation (n : Line) : roleOf (mixerStation n) = .mixer := by
  simp [roleOf]

@[simp] theorem roleOf_hallStation : roleOf hallStation = .hall := rfl
@[simp] theorem roleOf_loadoutStation : roleOf loadoutStation = .loadout := rfl
@[simp] theorem roleOf_supervisorStation : roleOf supervisorStation = .supervisor := rfl

/-- Emptying an empty inbox changes nothing. -/
theorem setInbox_none_of_empty {st : Station} {s : State} (h : s.inboxes[st] = none) : setInbox st none s = s := by
  have : s.inboxes.set st none = s.inboxes := by
    apply Vector.ext
    intro i hi
    rw [Vector.getElem_set]
    split
    · next heq => subst heq; exact h.symm
    · rfl
  simp only [setInbox, this]

/-- A frame that finds the inbox and the answer slot empty is taken at once (R149). -/
theorem arrive_of_takesAtOnce {st : Station} {s : State} (h : TakesAtOnce st s) {data : List Byte}
    (fits : data.length ≤ Config.frameBytes) : arrive st data s = placeAnswer st (echoOf data) (judgeFrame st data s) := by
  obtain ⟨link, inbox, slot⟩ := h
  simp [arrive, link, inbox, slot, List.take_of_length_le fits, takeCommand, setInbox_none_of_empty inbox]

/-- An answer is placed as `answered` says. -/
theorem placeAnswer_eq (st : Station) (code : Byte) (t : Taken) :
    placeAnswer st code t = answered st code t.status t.results t.state := rfl

/-- A permitted command that is taken at once: its owner's taking, answered (R148, R150). -/
theorem arriveCommand_of_takesAtOnce {c : CommandCode} {st : Station} {s : State} (h : TakesAtOnce st s) {args : List Byte}
    (fits : argsFit args = true) (permitted : c.permits (roleOf st) = true) :
    arriveCommand c st args s
      = answered st c.byte (deliver c st args s).status (deliver c st args s).results (deliver c st args s).state := by
  have fits' : (c.byte :: args).length ≤ Config.frameBytes := by
    simp only [argsFit, Config.frameBytes, decide_eq_true_eq] at fits
    simp only [List.length_cons, Config.frameBytes]
    omega
  simp [arriveCommand, arrive_of_takesAtOnce h fits', judgeFrame, permitted, placeAnswer_eq, echoOf]

/-- A SPAR parameter that is taken at once: its owner's taking, answered (R48). -/
theorem arriveParameter_of_takesAtOnce {p : Byte} {s : State} (h : TakesAtOnce supervisorStation s) {args : List Byte}
    (fits : parameterArgsFit args = true) :
    arriveParameter p supervisorStation args s
      = answered supervisorStation 0x4D (takeSpar (p :: args) s).status (takeSpar (p :: args) s).results
          (takeSpar (p :: args) s).state := by
  have fits' : argsFit (p :: args) = true := by
    simp only [parameterArgsFit, Config.frameBytes, decide_eq_true_eq] at fits
    simp only [argsFit, Config.frameBytes, List.length_cons, decide_eq_true_eq]
    omega
  exact arriveCommand_of_takesAtOnce h fits' rfl

end Sys2Proof.Machine
end

