-- ==== Sys2Proof/Laws/State.lean ====
section
/-! SUPPORT. What each shared operation of Machine/Ops.lean leaves unchanged: one lemma for each field and operation, so that no later proof
unfolds a record update. -/

namespace Sys2Proof.Machine

open Sys2Proof

variable (s : State)

/-! ### `markSlot` -/

@[simp] theorem markSlot_lots (i : SlotNo) : (markSlot i s).lots = s.lots := rfl
@[simp] theorem markSlot_nextSerial (i : SlotNo) : (markSlot i s).nextSerial = s.nextSerial := rfl
@[simp] theorem markSlot_recipes (i : SlotNo) : (markSlot i s).recipes = s.recipes := rfl
@[simp] theorem markSlot_limits (i : SlotNo) : (markSlot i s).limits = s.limits := rfl
@[simp] theorem markSlot_lines (i : SlotNo) : (markSlot i s).lines = s.lines := rfl
@[simp] theorem markSlot_permits (i : SlotNo) : (markSlot i s).permits = s.permits := rfl
@[simp] theorem markSlot_phRaw (i : SlotNo) : (markSlot i s).phRaw = s.phRaw := rfl
@[simp] theorem markSlot_haltRegistered (i : SlotNo) : (markSlot i s).haltRegistered = s.haltRegistered := rfl
@[simp] theorem markSlot_qualifying (i : SlotNo) : (markSlot i s).qualifying = s.qualifying := rfl
@[simp] theorem markSlot_lanes (i : SlotNo) : (markSlot i s).lanes = s.lanes := rfl
@[simp] theorem markSlot_staleLimit (i : SlotNo) : (markSlot i s).staleLimit = s.staleLimit := rfl
@[simp] theorem markSlot_divider (i : SlotNo) : (markSlot i s).divider = s.divider := rfl
@[simp] theorem markSlot_secondInMinute (i : SlotNo) : (markSlot i s).secondInMinute = s.secondInMinute := rfl
@[simp] theorem markSlot_intervalTaken (i : SlotNo) : (markSlot i s).intervalTaken = s.intervalTaken := rfl
@[simp] theorem markSlot_plantMinute (i : SlotNo) : (markSlot i s).plantMinute = s.plantMinute := rfl
@[simp] theorem markSlot_timeValid (i : SlotNo) : (markSlot i s).timeValid = s.timeValid := rfl
@[simp] theorem markSlot_queue (i : SlotNo) : (markSlot i s).queue = s.queue := rfl
@[simp] theorem markSlot_claims (i : SlotNo) : (markSlot i s).claims = s.claims := rfl
@[simp] theorem markSlot_claimTimeout (i : SlotNo) : (markSlot i s).claimTimeout = s.claimTimeout := rfl
@[simp] theorem markSlot_releaseLog (i : SlotNo) : (markSlot i s).releaseLog = s.releaseLog := rfl
@[simp] theorem markSlot_pendingKinds (i : SlotNo) : (markSlot i s).pendingKinds = s.pendingKinds := rfl
@[simp] theorem markSlot_masks (i : SlotNo) : (markSlot i s).masks = s.masks := rfl
@[simp] theorem markSlot_link (i : SlotNo) : (markSlot i s).link = s.link := rfl
@[simp] theorem markSlot_transmitErrors (i : SlotNo) : (markSlot i s).transmitErrors = s.transmitErrors := rfl
@[simp] theorem markSlot_receiveErrors (i : SlotNo) : (markSlot i s).receiveErrors = s.receiveErrors := rfl
@[simp] theorem markSlot_inboxes (i : SlotNo) : (markSlot i s).inboxes = s.inboxes := rfl
@[simp] theorem markSlot_lostMarks (i : SlotNo) : (markSlot i s).lostMarks = s.lostMarks := rfl
@[simp] theorem markSlot_answers (i : SlotNo) : (markSlot i s).answers = s.answers := rfl
@[simp] theorem markSlot_transmitter (i : SlotNo) : (markSlot i s).transmitter = s.transmitter := rfl
@[simp] theorem markSlot_strapPins (i : SlotNo) : (markSlot i s).strapPins = s.strapPins := rfl
@[simp] theorem markSlot_straps (i : SlotNo) : (markSlot i s).straps = s.straps := rfl
@[simp] theorem markSlot_phase (i : SlotNo) : (markSlot i s).phase = s.phase := rfl
@[simp] theorem markSlot_startCause (i : SlotNo) : (markSlot i s).startCause = s.startCause := rfl
@[simp] theorem markSlot_decidedCause (i : SlotNo) : (markSlot i s).decidedCause = s.decidedCause := rfl
@[simp] theorem markSlot_selfTestPassed (i : SlotNo) : (markSlot i s).selfTestPassed = s.selfTestPassed := rfl
@[simp] theorem markSlot_retentionLost (i : SlotNo) : (markSlot i s).retentionLost = s.retentionLost := rfl
@[simp] theorem markSlot_ready (i : SlotNo) : (markSlot i s).ready = s.ready := rfl
@[simp] theorem markSlot_pending (i : SlotNo) : (markSlot i s).pending = s.pending := rfl

/-! ### `raiseFor` -/

@[simp] theorem raiseFor_lots (who : Station → Bool) (k : AttnKind) : (raiseFor who k s).lots = s.lots := rfl
@[simp] theorem raiseFor_nextSerial (who : Station → Bool) (k : AttnKind) : (raiseFor who k s).nextSerial = s.nextSerial := rfl
@[simp] theorem raiseFor_recipes (who : Station → Bool) (k : AttnKind) : (raiseFor who k s).recipes = s.recipes := rfl
@[simp] theorem raiseFor_limits (who : Station → Bool) (k : AttnKind) : (raiseFor who k s).limits = s.limits := rfl
@[simp] theorem raiseFor_lines (who : Station → Bool) (k : AttnKind) : (raiseFor who k s).lines = s.lines := rfl
@[simp] theorem raiseFor_permits (who : Station → Bool) (k : AttnKind) : (raiseFor who k s).permits = s.permits := rfl
@[simp] theorem raiseFor_phRaw (who : Station → Bool) (k : AttnKind) : (raiseFor who k s).phRaw = s.phRaw := rfl
@[simp] theorem raiseFor_haltRegistered (who : Station → Bool) (k : AttnKind) : (raiseFor who k s).haltRegistered = s.haltRegistered := rfl
@[simp] theorem raiseFor_qualifying (who : Station → Bool) (k : AttnKind) : (raiseFor who k s).qualifying = s.qualifying := rfl
@[simp] theorem raiseFor_lanes (who : Station → Bool) (k : AttnKind) : (raiseFor who k s).lanes = s.lanes := rfl
@[simp] theorem raiseFor_staleLimit (who : Station → Bool) (k : AttnKind) : (raiseFor who k s).staleLimit = s.staleLimit := rfl
@[simp] theorem raiseFor_divider (who : Station → Bool) (k : AttnKind) : (raiseFor who k s).divider = s.divider := rfl
@[simp] theorem raiseFor_secondInMinute (who : Station → Bool) (k : AttnKind) : (raiseFor who k s).secondInMinute = s.secondInMinute := rfl
@[simp] theorem raiseFor_intervalTaken (who : Station → Bool) (k : AttnKind) : (raiseFor who k s).intervalTaken = s.intervalTaken := rfl
@[simp] theorem raiseFor_plantMinute (who : Station → Bool) (k : AttnKind) : (raiseFor who k s).plantMinute = s.plantMinute := rfl
@[simp] theorem raiseFor_timeValid (who : Station → Bool) (k : AttnKind) : (raiseFor who k s).timeValid = s.timeValid := rfl
@[simp] theorem raiseFor_queue (who : Station → Bool) (k : AttnKind) : (raiseFor who k s).queue = s.queue := rfl
@[simp] theorem raiseFor_claims (who : Station → Bool) (k : AttnKind) : (raiseFor who k s).claims = s.claims := rfl
@[simp] theorem raiseFor_claimTimeout (who : Station → Bool) (k : AttnKind) : (raiseFor who k s).claimTimeout = s.claimTimeout := rfl
@[simp] theorem raiseFor_releaseLog (who : Station → Bool) (k : AttnKind) : (raiseFor who k s).releaseLog = s.releaseLog := rfl
@[simp] theorem raiseFor_masks (who : Station → Bool) (k : AttnKind) : (raiseFor who k s).masks = s.masks := rfl
@[simp] theorem raiseFor_link (who : Station → Bool) (k : AttnKind) : (raiseFor who k s).link = s.link := rfl
@[simp] theorem raiseFor_transmitErrors (who : Station → Bool) (k : AttnKind) : (raiseFor who k s).transmitErrors = s.transmitErrors := rfl
@[simp] theorem raiseFor_receiveErrors (who : Station → Bool) (k : AttnKind) : (raiseFor who k s).receiveErrors = s.receiveErrors := rfl
@[simp] theorem raiseFor_inboxes (who : Station → Bool) (k : AttnKind) : (raiseFor who k s).inboxes = s.inboxes := rfl
@[simp] theorem raiseFor_lostMarks (who : Station → Bool) (k : AttnKind) : (raiseFor who k s).lostMarks = s.lostMarks := rfl
@[simp] theorem raiseFor_answers (who : Station → Bool) (k : AttnKind) : (raiseFor who k s).answers = s.answers := rfl
@[simp] theorem raiseFor_transmitter (who : Station → Bool) (k : AttnKind) : (raiseFor who k s).transmitter = s.transmitter := rfl
@[simp] theorem raiseFor_strapPins (who : Station → Bool) (k : AttnKind) : (raiseFor who k s).strapPins = s.strapPins := rfl
@[simp] theorem raiseFor_straps (who : Station → Bool) (k : AttnKind) : (raiseFor who k s).straps = s.straps := rfl
@[simp] theorem raiseFor_phase (who : Station → Bool) (k : AttnKind) : (raiseFor who k s).phase = s.phase := rfl
@[simp] theorem raiseFor_startCause (who : Station → Bool) (k : AttnKind) : (raiseFor who k s).startCause = s.startCause := rfl
@[simp] theorem raiseFor_decidedCause (who : Station → Bool) (k : AttnKind) : (raiseFor who k s).decidedCause = s.decidedCause := rfl
@[simp] theorem raiseFor_selfTestPassed (who : Station → Bool) (k : AttnKind) : (raiseFor who k s).selfTestPassed = s.selfTestPassed := rfl
@[simp] theorem raiseFor_retentionLost (who : Station → Bool) (k : AttnKind) : (raiseFor who k s).retentionLost = s.retentionLost := rfl
@[simp] theorem raiseFor_ready (who : Station → Bool) (k : AttnKind) : (raiseFor who k s).ready = s.ready := rfl
@[simp] theorem raiseFor_pending (who : Station → Bool) (k : AttnKind) : (raiseFor who k s).pending = s.pending := rfl

/-! ### `raise` -/

@[simp] theorem raise_lots (st : Station) (k : AttnKind) : (raise st k s).lots = s.lots := rfl
@[simp] theorem raise_nextSerial (st : Station) (k : AttnKind) : (raise st k s).nextSerial = s.nextSerial := rfl
@[simp] theorem raise_recipes (st : Station) (k : AttnKind) : (raise st k s).recipes = s.recipes := rfl
@[simp] theorem raise_limits (st : Station) (k : AttnKind) : (raise st k s).limits = s.limits := rfl
@[simp] theorem raise_lines (st : Station) (k : AttnKind) : (raise st k s).lines = s.lines := rfl
@[simp] theorem raise_permits (st : Station) (k : AttnKind) : (raise st k s).permits = s.permits := rfl
@[simp] theorem raise_phRaw (st : Station) (k : AttnKind) : (raise st k s).phRaw = s.phRaw := rfl
@[simp] theorem raise_haltRegistered (st : Station) (k : AttnKind) : (raise st k s).haltRegistered = s.haltRegistered := rfl
@[simp] theorem raise_qualifying (st : Station) (k : AttnKind) : (raise st k s).qualifying = s.qualifying := rfl
@[simp] theorem raise_lanes (st : Station) (k : AttnKind) : (raise st k s).lanes = s.lanes := rfl
@[simp] theorem raise_staleLimit (st : Station) (k : AttnKind) : (raise st k s).staleLimit = s.staleLimit := rfl
@[simp] theorem raise_divider (st : Station) (k : AttnKind) : (raise st k s).divider = s.divider := rfl
@[simp] theorem raise_secondInMinute (st : Station) (k : AttnKind) : (raise st k s).secondInMinute = s.secondInMinute := rfl
@[simp] theorem raise_intervalTaken (st : Station) (k : AttnKind) : (raise st k s).intervalTaken = s.intervalTaken := rfl
@[simp] theorem raise_plantMinute (st : Station) (k : AttnKind) : (raise st k s).plantMinute = s.plantMinute := rfl
@[simp] theorem raise_timeValid (st : Station) (k : AttnKind) : (raise st k s).timeValid = s.timeValid := rfl
@[simp] theorem raise_queue (st : Station) (k : AttnKind) : (raise st k s).queue = s.queue := rfl
@[simp] theorem raise_claims (st : Station) (k : AttnKind) : (raise st k s).claims = s.claims := rfl
@[simp] theorem raise_claimTimeout (st : Station) (k : AttnKind) : (raise st k s).claimTimeout = s.claimTimeout := rfl
@[simp] theorem raise_releaseLog (st : Station) (k : AttnKind) : (raise st k s).releaseLog = s.releaseLog := rfl
@[simp] theorem raise_masks (st : Station) (k : AttnKind) : (raise st k s).masks = s.masks := rfl
@[simp] theorem raise_link (st : Station) (k : AttnKind) : (raise st k s).link = s.link := rfl
@[simp] theorem raise_transmitErrors (st : Station) (k : AttnKind) : (raise st k s).transmitErrors = s.transmitErrors := rfl
@[simp] theorem raise_receiveErrors (st : Station) (k : AttnKind) : (raise st k s).receiveErrors = s.receiveErrors := rfl
@[simp] theorem raise_inboxes (st : Station) (k : AttnKind) : (raise st k s).inboxes = s.inboxes := rfl
@[simp] theorem raise_lostMarks (st : Station) (k : AttnKind) : (raise st k s).lostMarks = s.lostMarks := rfl
@[simp] theorem raise_answers (st : Station) (k : AttnKind) : (raise st k s).answers = s.answers := rfl
@[simp] theorem raise_transmitter (st : Station) (k : AttnKind) : (raise st k s).transmitter = s.transmitter := rfl
@[simp] theorem raise_strapPins (st : Station) (k : AttnKind) : (raise st k s).strapPins = s.strapPins := rfl
@[simp] theorem raise_straps (st : Station) (k : AttnKind) : (raise st k s).straps = s.straps := rfl
@[simp] theorem raise_phase (st : Station) (k : AttnKind) : (raise st k s).phase = s.phase := rfl
@[simp] theorem raise_startCause (st : Station) (k : AttnKind) : (raise st k s).startCause = s.startCause := rfl
@[simp] theorem raise_decidedCause (st : Station) (k : AttnKind) : (raise st k s).decidedCause = s.decidedCause := rfl
@[simp] theorem raise_selfTestPassed (st : Station) (k : AttnKind) : (raise st k s).selfTestPassed = s.selfTestPassed := rfl
@[simp] theorem raise_retentionLost (st : Station) (k : AttnKind) : (raise st k s).retentionLost = s.retentionLost := rfl
@[simp] theorem raise_ready (st : Station) (k : AttnKind) : (raise st k s).ready = s.ready := rfl
@[simp] theorem raise_pending (st : Station) (k : AttnKind) : (raise st k s).pending = s.pending := rfl

/-! ### `dropKind` -/

@[simp] theorem dropKind_lots (k : AttnKind) : (dropKind k s).lots = s.lots := rfl
@[simp] theorem dropKind_nextSerial (k : AttnKind) : (dropKind k s).nextSerial = s.nextSerial := rfl
@[simp] theorem dropKind_recipes (k : AttnKind) : (dropKind k s).recipes = s.recipes := rfl
@[simp] theorem dropKind_limits (k : AttnKind) : (dropKind k s).limits = s.limits := rfl
@[simp] theorem dropKind_lines (k : AttnKind) : (dropKind k s).lines = s.lines := rfl
@[simp] theorem dropKind_permits (k : AttnKind) : (dropKind k s).permits = s.permits := rfl
@[simp] theorem dropKind_phRaw (k : AttnKind) : (dropKind k s).phRaw = s.phRaw := rfl
@[simp] theorem dropKind_haltRegistered (k : AttnKind) : (dropKind k s).haltRegistered = s.haltRegistered := rfl
@[simp] theorem dropKind_qualifying (k : AttnKind) : (dropKind k s).qualifying = s.qualifying := rfl
@[simp] theorem dropKind_lanes (k : AttnKind) : (dropKind k s).lanes = s.lanes := rfl
@[simp] theorem dropKind_staleLimit (k : AttnKind) : (dropKind k s).staleLimit = s.staleLimit := rfl
@[simp] theorem dropKind_divider (k : AttnKind) : (dropKind k s).divider = s.divider := rfl
@[simp] theorem dropKind_secondInMinute (k : AttnKind) : (dropKind k s).secondInMinute = s.secondInMinute := rfl
@[simp] theorem dropKind_intervalTaken (k : AttnKind) : (dropKind k s).intervalTaken = s.intervalTaken := rfl
@[simp] theorem dropKind_plantMinute (k : AttnKind) : (dropKind k s).plantMinute = s.plantMinute := rfl
@[simp] theorem dropKind_timeValid (k : AttnKind) : (dropKind k s).timeValid = s.timeValid := rfl
@[simp] theorem dropKind_queue (k : AttnKind) : (dropKind k s).queue = s.queue := rfl
@[simp] theorem dropKind_claims (k : AttnKind) : (dropKind k s).claims = s.claims := rfl
@[simp] theorem dropKind_claimTimeout (k : AttnKind) : (dropKind k s).claimTimeout = s.claimTimeout := rfl
@[simp] theorem dropKind_releaseLog (k : AttnKind) : (dropKind k s).releaseLog = s.releaseLog := rfl
@[simp] theorem dropKind_masks (k : AttnKind) : (dropKind k s).masks = s.masks := rfl
@[simp] theorem dropKind_link (k : AttnKind) : (dropKind k s).link = s.link := rfl
@[simp] theorem dropKind_transmitErrors (k : AttnKind) : (dropKind k s).transmitErrors = s.transmitErrors := rfl
@[simp] theorem dropKind_receiveErrors (k : AttnKind) : (dropKind k s).receiveErrors = s.receiveErrors := rfl
@[simp] theorem dropKind_inboxes (k : AttnKind) : (dropKind k s).inboxes = s.inboxes := rfl
@[simp] theorem dropKind_lostMarks (k : AttnKind) : (dropKind k s).lostMarks = s.lostMarks := rfl
@[simp] theorem dropKind_slots (k : AttnKind) : (dropKind k s).slots = s.slots := rfl
@[simp] theorem dropKind_answers (k : AttnKind) : (dropKind k s).answers = s.answers := rfl
@[simp] theorem dropKind_transmitter (k : AttnKind) : (dropKind k s).transmitter = s.transmitter := rfl
@[simp] theorem dropKind_strapPins (k : AttnKind) : (dropKind k s).strapPins = s.strapPins := rfl
@[simp] theorem dropKind_straps (k : AttnKind) : (dropKind k s).straps = s.straps := rfl
@[simp] theorem dropKind_phase (k : AttnKind) : (dropKind k s).phase = s.phase := rfl
@[simp] theorem dropKind_startCause (k : AttnKind) : (dropKind k s).startCause = s.startCause := rfl
@[simp] theorem dropKind_decidedCause (k : AttnKind) : (dropKind k s).decidedCause = s.decidedCause := rfl
@[simp] theorem dropKind_selfTestPassed (k : AttnKind) : (dropKind k s).selfTestPassed = s.selfTestPassed := rfl
@[simp] theorem dropKind_retentionLost (k : AttnKind) : (dropKind k s).retentionLost = s.retentionLost := rfl
@[simp] theorem dropKind_ready (k : AttnKind) : (dropKind k s).ready = s.ready := rfl
@[simp] theorem dropKind_pending (k : AttnKind) : (dropKind k s).pending = s.pending := rfl

/-! ### `reportCondition` -/

@[simp] theorem reportCondition_lots (k : AttnKind) (v : Bool) : (reportCondition k v s).lots = s.lots := by cases v <;> rfl
@[simp] theorem reportCondition_nextSerial (k : AttnKind) (v : Bool) : (reportCondition k v s).nextSerial = s.nextSerial := by cases v <;> rfl
@[simp] theorem reportCondition_recipes (k : AttnKind) (v : Bool) : (reportCondition k v s).recipes = s.recipes := by cases v <;> rfl
@[simp] theorem reportCondition_limits (k : AttnKind) (v : Bool) : (reportCondition k v s).limits = s.limits := by cases v <;> rfl
@[simp] theorem reportCondition_lines (k : AttnKind) (v : Bool) : (reportCondition k v s).lines = s.lines := by cases v <;> rfl
@[simp] theorem reportCondition_permits (k : AttnKind) (v : Bool) : (reportCondition k v s).permits = s.permits := by cases v <;> rfl
@[simp] theorem reportCondition_phRaw (k : AttnKind) (v : Bool) : (reportCondition k v s).phRaw = s.phRaw := by cases v <;> rfl
@[simp] theorem reportCondition_haltRegistered (k : AttnKind) (v : Bool) : (reportCondition k v s).haltRegistered = s.haltRegistered := by cases v <;> rfl
@[simp] theorem reportCondition_qualifying (k : AttnKind) (v : Bool) : (reportCondition k v s).qualifying = s.qualifying := by cases v <;> rfl
@[simp] theorem reportCondition_lanes (k : AttnKind) (v : Bool) : (reportCondition k v s).lanes = s.lanes := by cases v <;> rfl
@[simp] theorem reportCondition_staleLimit (k : AttnKind) (v : Bool) : (reportCondition k v s).staleLimit = s.staleLimit := by cases v <;> rfl
@[simp] theorem reportCondition_divider (k : AttnKind) (v : Bool) : (reportCondition k v s).divider = s.divider := by cases v <;> rfl
@[simp] theorem reportCondition_secondInMinute (k : AttnKind) (v : Bool) : (reportCondition k v s).secondInMinute = s.secondInMinute := by cases v <;> rfl
@[simp] theorem reportCondition_intervalTaken (k : AttnKind) (v : Bool) : (reportCondition k v s).intervalTaken = s.intervalTaken := by cases v <;> rfl
@[simp] theorem reportCondition_plantMinute (k : AttnKind) (v : Bool) : (reportCondition k v s).plantMinute = s.plantMinute := by cases v <;> rfl
@[simp] theorem reportCondition_timeValid (k : AttnKind) (v : Bool) : (reportCondition k v s).timeValid = s.timeValid := by cases v <;> rfl
@[simp] theorem reportCondition_queue (k : AttnKind) (v : Bool) : (reportCondition k v s).queue = s.queue := by cases v <;> rfl
@[simp] theorem reportCondition_claims (k : AttnKind) (v : Bool) : (reportCondition k v s).claims = s.claims := by cases v <;> rfl
@[simp] theorem reportCondition_claimTimeout (k : AttnKind) (v : Bool) : (reportCondition k v s).claimTimeout = s.claimTimeout := by cases v <;> rfl
@[simp] theorem reportCondition_releaseLog (k : AttnKind) (v : Bool) : (reportCondition k v s).releaseLog = s.releaseLog := by cases v <;> rfl
@[simp] theorem reportCondition_masks (k : AttnKind) (v : Bool) : (reportCondition k v s).masks = s.masks := by cases v <;> rfl
@[simp] theorem reportCondition_link (k : AttnKind) (v : Bool) : (reportCondition k v s).link = s.link := by cases v <;> rfl
@[simp] theorem reportCondition_transmitErrors (k : AttnKind) (v : Bool) : (reportCondition k v s).transmitErrors = s.transmitErrors := by cases v <;> rfl
@[simp] theorem reportCondition_receiveErrors (k : AttnKind) (v : Bool) : (reportCondition k v s).receiveErrors = s.receiveErrors := by cases v <;> rfl
@[simp] theorem reportCondition_inboxes (k : AttnKind) (v : Bool) : (reportCondition k v s).inboxes = s.inboxes := by cases v <;> rfl
@[simp] theorem reportCondition_lostMarks (k : AttnKind) (v : Bool) : (reportCondition k v s).lostMarks = s.lostMarks := by cases v <;> rfl
@[simp] theorem reportCondition_answers (k : AttnKind) (v : Bool) : (reportCondition k v s).answers = s.answers := by cases v <;> rfl
@[simp] theorem reportCondition_transmitter (k : AttnKind) (v : Bool) : (reportCondition k v s).transmitter = s.transmitter := by cases v <;> rfl
@[simp] theorem reportCondition_strapPins (k : AttnKind) (v : Bool) : (reportCondition k v s).strapPins = s.strapPins := by cases v <;> rfl
@[simp] theorem reportCondition_straps (k : AttnKind) (v : Bool) : (reportCondition k v s).straps = s.straps := by cases v <;> rfl
@[simp] theorem reportCondition_phase (k : AttnKind) (v : Bool) : (reportCondition k v s).phase = s.phase := by cases v <;> rfl
@[simp] theorem reportCondition_startCause (k : AttnKind) (v : Bool) : (reportCondition k v s).startCause = s.startCause := by cases v <;> rfl
@[simp] theorem reportCondition_decidedCause (k : AttnKind) (v : Bool) : (reportCondition k v s).decidedCause = s.decidedCause := by cases v <;> rfl
@[simp] theorem reportCondition_selfTestPassed (k : AttnKind) (v : Bool) : (reportCondition k v s).selfTestPassed = s.selfTestPassed := by cases v <;> rfl
@[simp] theorem reportCondition_retentionLost (k : AttnKind) (v : Bool) : (reportCondition k v s).retentionLost = s.retentionLost := by cases v <;> rfl
@[simp] theorem reportCondition_ready (k : AttnKind) (v : Bool) : (reportCondition k v s).ready = s.ready := by cases v <;> rfl
@[simp] theorem reportCondition_pending (k : AttnKind) (v : Bool) : (reportCondition k v s).pending = s.pending := by cases v <;> rfl

/-! ### `reportHalt` -/

@[simp] theorem reportHalt_lots : (reportHalt s).lots = s.lots := reportCondition_lots s _ _
@[simp] theorem reportHalt_nextSerial : (reportHalt s).nextSerial = s.nextSerial := reportCondition_nextSerial s _ _
@[simp] theorem reportHalt_recipes : (reportHalt s).recipes = s.recipes := reportCondition_recipes s _ _
@[simp] theorem reportHalt_limits : (reportHalt s).limits = s.limits := reportCondition_limits s _ _
@[simp] theorem reportHalt_lines : (reportHalt s).lines = s.lines := reportCondition_lines s _ _
@[simp] theorem reportHalt_permits : (reportHalt s).permits = s.permits := reportCondition_permits s _ _
@[simp] theorem reportHalt_phRaw : (reportHalt s).phRaw = s.phRaw := reportCondition_phRaw s _ _
@[simp] theorem reportHalt_haltRegistered : (reportHalt s).haltRegistered = s.haltRegistered := reportCondition_haltRegistered s _ _
@[simp] theorem reportHalt_qualifying : (reportHalt s).qualifying = s.qualifying := reportCondition_qualifying s _ _
@[simp] theorem reportHalt_lanes : (reportHalt s).lanes = s.lanes := reportCondition_lanes s _ _
@[simp] theorem reportHalt_staleLimit : (reportHalt s).staleLimit = s.staleLimit := reportCondition_staleLimit s _ _
@[simp] theorem reportHalt_divider : (reportHalt s).divider = s.divider := reportCondition_divider s _ _
@[simp] theorem reportHalt_secondInMinute : (reportHalt s).secondInMinute = s.secondInMinute := reportCondition_secondInMinute s _ _
@[simp] theorem reportHalt_intervalTaken : (reportHalt s).intervalTaken = s.intervalTaken := reportCondition_intervalTaken s _ _
@[simp] theorem reportHalt_plantMinute : (reportHalt s).plantMinute = s.plantMinute := reportCondition_plantMinute s _ _
@[simp] theorem reportHalt_timeValid : (reportHalt s).timeValid = s.timeValid := reportCondition_timeValid s _ _
@[simp] theorem reportHalt_queue : (reportHalt s).queue = s.queue := reportCondition_queue s _ _
@[simp] theorem reportHalt_claims : (reportHalt s).claims = s.claims := reportCondition_claims s _ _
@[simp] theorem reportHalt_claimTimeout : (reportHalt s).claimTimeout = s.claimTimeout := reportCondition_claimTimeout s _ _
@[simp] theorem reportHalt_releaseLog : (reportHalt s).releaseLog = s.releaseLog := reportCondition_releaseLog s _ _
@[simp] theorem reportHalt_masks : (reportHalt s).masks = s.masks := reportCondition_masks s _ _
@[simp] theorem reportHalt_link : (reportHalt s).link = s.link := reportCondition_link s _ _
@[simp] theorem reportHalt_transmitErrors : (reportHalt s).transmitErrors = s.transmitErrors := reportCondition_transmitErrors s _ _
@[simp] theorem reportHalt_receiveErrors : (reportHalt s).receiveErrors = s.receiveErrors := reportCondition_receiveErrors s _ _
@[simp] theorem reportHalt_inboxes : (reportHalt s).inboxes = s.inboxes := reportCondition_inboxes s _ _
@[simp] theorem reportHalt_lostMarks : (reportHalt s).lostMarks = s.lostMarks := reportCondition_lostMarks s _ _
@[simp] theorem reportHalt_answers : (reportHalt s).answers = s.answers := reportCondition_answers s _ _
@[simp] theorem reportHalt_transmitter : (reportHalt s).transmitter = s.transmitter := reportCondition_transmitter s _ _
@[simp] theorem reportHalt_strapPins : (reportHalt s).strapPins = s.strapPins := reportCondition_strapPins s _ _
@[simp] theorem reportHalt_straps : (reportHalt s).straps = s.straps := reportCondition_straps s _ _
@[simp] theorem reportHalt_phase : (reportHalt s).phase = s.phase := reportCondition_phase s _ _
@[simp] theorem reportHalt_startCause : (reportHalt s).startCause = s.startCause := reportCondition_startCause s _ _
@[simp] theorem reportHalt_decidedCause : (reportHalt s).decidedCause = s.decidedCause := reportCondition_decidedCause s _ _
@[simp] theorem reportHalt_selfTestPassed : (reportHalt s).selfTestPassed = s.selfTestPassed := reportCondition_selfTestPassed s _ _
@[simp] theorem reportHalt_retentionLost : (reportHalt s).retentionLost = s.retentionLost := reportCondition_retentionLost s _ _
@[simp] theorem reportHalt_ready : (reportHalt s).ready = s.ready := reportCondition_ready s _ _
@[simp] theorem reportHalt_pending : (reportHalt s).pending = s.pending := reportCondition_pending s _ _

/-! ### `reportStale` -/

@[simp] theorem reportStale_lots : (reportStale s).lots = s.lots := reportCondition_lots s _ _
@[simp] theorem reportStale_nextSerial : (reportStale s).nextSerial = s.nextSerial := reportCondition_nextSerial s _ _
@[simp] theorem reportStale_recipes : (reportStale s).recipes = s.recipes := reportCondition_recipes s _ _
@[simp] theorem reportStale_limits : (reportStale s).limits = s.limits := reportCondition_limits s _ _
@[simp] theorem reportStale_lines : (reportStale s).lines = s.lines := reportCondition_lines s _ _
@[simp] theorem reportStale_permits : (reportStale s).permits = s.permits := reportCondition_permits s _ _
@[simp] theorem reportStale_phRaw : (reportStale s).phRaw = s.phRaw := reportCondition_phRaw s _ _
@[simp] theorem reportStale_haltRegistered : (reportStale s).haltRegistered = s.haltRegistered := reportCondition_haltRegistered s _ _
@[simp] theorem reportStale_qualifying : (reportStale s).qualifying = s.qualifying := reportCondition_qualifying s _ _
@[simp] theorem reportStale_lanes : (reportStale s).lanes = s.lanes := reportCondition_lanes s _ _
@[simp] theorem reportStale_staleLimit : (reportStale s).staleLimit = s.staleLimit := reportCondition_staleLimit s _ _
@[simp] theorem reportStale_divider : (reportStale s).divider = s.divider := reportCondition_divider s _ _
@[simp] theorem reportStale_secondInMinute : (reportStale s).secondInMinute = s.secondInMinute := reportCondition_secondInMinute s _ _
@[simp] theorem reportStale_intervalTaken : (reportStale s).intervalTaken = s.intervalTaken := reportCondition_intervalTaken s _ _
@[simp] theorem reportStale_plantMinute : (reportStale s).plantMinute = s.plantMinute := reportCondition_plantMinute s _ _
@[simp] theorem reportStale_timeValid : (reportStale s).timeValid = s.timeValid := reportCondition_timeValid s _ _
@[simp] theorem reportStale_queue : (reportStale s).queue = s.queue := reportCondition_queue s _ _
@[simp] theorem reportStale_claims : (reportStale s).claims = s.claims := reportCondition_claims s _ _
@[simp] theorem reportStale_claimTimeout : (reportStale s).claimTimeout = s.claimTimeout := reportCondition_claimTimeout s _ _
@[simp] theorem reportStale_releaseLog : (reportStale s).releaseLog = s.releaseLog := reportCondition_releaseLog s _ _
@[simp] theorem reportStale_masks : (reportStale s).masks = s.masks := reportCondition_masks s _ _
@[simp] theorem reportStale_link : (reportStale s).link = s.link := reportCondition_link s _ _
@[simp] theorem reportStale_transmitErrors : (reportStale s).transmitErrors = s.transmitErrors := reportCondition_transmitErrors s _ _
@[simp] theorem reportStale_receiveErrors : (reportStale s).receiveErrors = s.receiveErrors := reportCondition_receiveErrors s _ _
@[simp] theorem reportStale_inboxes : (reportStale s).inboxes = s.inboxes := reportCondition_inboxes s _ _
@[simp] theorem reportStale_lostMarks : (reportStale s).lostMarks = s.lostMarks := reportCondition_lostMarks s _ _
@[simp] theorem reportStale_answers : (reportStale s).answers = s.answers := reportCondition_answers s _ _
@[simp] theorem reportStale_transmitter : (reportStale s).transmitter = s.transmitter := reportCondition_transmitter s _ _
@[simp] theorem reportStale_strapPins : (reportStale s).strapPins = s.strapPins := reportCondition_strapPins s _ _
@[simp] theorem reportStale_straps : (reportStale s).straps = s.straps := reportCondition_straps s _ _
@[simp] theorem reportStale_phase : (reportStale s).phase = s.phase := reportCondition_phase s _ _
@[simp] theorem reportStale_startCause : (reportStale s).startCause = s.startCause := reportCondition_startCause s _ _
@[simp] theorem reportStale_decidedCause : (reportStale s).decidedCause = s.decidedCause := reportCondition_decidedCause s _ _
@[simp] theorem reportStale_selfTestPassed : (reportStale s).selfTestPassed = s.selfTestPassed := reportCondition_selfTestPassed s _ _
@[simp] theorem reportStale_retentionLost : (reportStale s).retentionLost = s.retentionLost := reportCondition_retentionLost s _ _
@[simp] theorem reportStale_ready : (reportStale s).ready = s.ready := reportCondition_ready s _ _
@[simp] theorem reportStale_pending : (reportStale s).pending = s.pending := reportCondition_pending s _ _

/-! ### `reportTime` -/

@[simp] theorem reportTime_lots : (reportTime s).lots = s.lots := reportCondition_lots s _ _
@[simp] theorem reportTime_nextSerial : (reportTime s).nextSerial = s.nextSerial := reportCondition_nextSerial s _ _
@[simp] theorem reportTime_recipes : (reportTime s).recipes = s.recipes := reportCondition_recipes s _ _
@[simp] theorem reportTime_limits : (reportTime s).limits = s.limits := reportCondition_limits s _ _
@[simp] theorem reportTime_lines : (reportTime s).lines = s.lines := reportCondition_lines s _ _
@[simp] theorem reportTime_permits : (reportTime s).permits = s.permits := reportCondition_permits s _ _
@[simp] theorem reportTime_phRaw : (reportTime s).phRaw = s.phRaw := reportCondition_phRaw s _ _
@[simp] theorem reportTime_haltRegistered : (reportTime s).haltRegistered = s.haltRegistered := reportCondition_haltRegistered s _ _
@[simp] theorem reportTime_qualifying : (reportTime s).qualifying = s.qualifying := reportCondition_qualifying s _ _
@[simp] theorem reportTime_lanes : (reportTime s).lanes = s.lanes := reportCondition_lanes s _ _
@[simp] theorem reportTime_staleLimit : (reportTime s).staleLimit = s.staleLimit := reportCondition_staleLimit s _ _
@[simp] theorem reportTime_divider : (reportTime s).divider = s.divider := reportCondition_divider s _ _
@[simp] theorem reportTime_secondInMinute : (reportTime s).secondInMinute = s.secondInMinute := reportCondition_secondInMinute s _ _
@[simp] theorem reportTime_intervalTaken : (reportTime s).intervalTaken = s.intervalTaken := reportCondition_intervalTaken s _ _
@[simp] theorem reportTime_plantMinute : (reportTime s).plantMinute = s.plantMinute := reportCondition_plantMinute s _ _
@[simp] theorem reportTime_timeValid : (reportTime s).timeValid = s.timeValid := reportCondition_timeValid s _ _
@[simp] theorem reportTime_queue : (reportTime s).queue = s.queue := reportCondition_queue s _ _
@[simp] theorem reportTime_claims : (reportTime s).claims = s.claims := reportCondition_claims s _ _
@[simp] theorem reportTime_claimTimeout : (reportTime s).claimTimeout = s.claimTimeout := reportCondition_claimTimeout s _ _
@[simp] theorem reportTime_releaseLog : (reportTime s).releaseLog = s.releaseLog := reportCondition_releaseLog s _ _
@[simp] theorem reportTime_masks : (reportTime s).masks = s.masks := reportCondition_masks s _ _
@[simp] theorem reportTime_link : (reportTime s).link = s.link := reportCondition_link s _ _
@[simp] theorem reportTime_transmitErrors : (reportTime s).transmitErrors = s.transmitErrors := reportCondition_transmitErrors s _ _
@[simp] theorem reportTime_receiveErrors : (reportTime s).receiveErrors = s.receiveErrors := reportCondition_receiveErrors s _ _
@[simp] theorem reportTime_inboxes : (reportTime s).inboxes = s.inboxes := reportCondition_inboxes s _ _
@[simp] theorem reportTime_lostMarks : (reportTime s).lostMarks = s.lostMarks := reportCondition_lostMarks s _ _
@[simp] theorem reportTime_answers : (reportTime s).answers = s.answers := reportCondition_answers s _ _
@[simp] theorem reportTime_transmitter : (reportTime s).transmitter = s.transmitter := reportCondition_transmitter s _ _
@[simp] theorem reportTime_strapPins : (reportTime s).strapPins = s.strapPins := reportCondition_strapPins s _ _
@[simp] theorem reportTime_straps : (reportTime s).straps = s.straps := reportCondition_straps s _ _
@[simp] theorem reportTime_phase : (reportTime s).phase = s.phase := reportCondition_phase s _ _
@[simp] theorem reportTime_startCause : (reportTime s).startCause = s.startCause := reportCondition_startCause s _ _
@[simp] theorem reportTime_decidedCause : (reportTime s).decidedCause = s.decidedCause := reportCondition_decidedCause s _ _
@[simp] theorem reportTime_selfTestPassed : (reportTime s).selfTestPassed = s.selfTestPassed := reportCondition_selfTestPassed s _ _
@[simp] theorem reportTime_retentionLost : (reportTime s).retentionLost = s.retentionLost := reportCondition_retentionLost s _ _
@[simp] theorem reportTime_ready : (reportTime s).ready = s.ready := reportCondition_ready s _ _
@[simp] theorem reportTime_pending : (reportTime s).pending = s.pending := reportCondition_pending s _ _

/-! ### `reportQueue` -/

@[simp] theorem reportQueue_lots : (reportQueue s).lots = s.lots := reportCondition_lots s _ _
@[simp] theorem reportQueue_nextSerial : (reportQueue s).nextSerial = s.nextSerial := reportCondition_nextSerial s _ _
@[simp] theorem reportQueue_recipes : (reportQueue s).recipes = s.recipes := reportCondition_recipes s _ _
@[simp] theorem reportQueue_limits : (reportQueue s).limits = s.limits := reportCondition_limits s _ _
@[simp] theorem reportQueue_lines : (reportQueue s).lines = s.lines := reportCondition_lines s _ _
@[simp] theorem reportQueue_permits : (reportQueue s).permits = s.permits := reportCondition_permits s _ _
@[simp] theorem reportQueue_phRaw : (reportQueue s).phRaw = s.phRaw := reportCondition_phRaw s _ _
@[simp] theorem reportQueue_haltRegistered : (reportQueue s).haltRegistered = s.haltRegistered := reportCondition_haltRegistered s _ _
@[simp] theorem reportQueue_qualifying : (reportQueue s).qualifying = s.qualifying := reportCondition_qualifying s _ _
@[simp] theorem reportQueue_lanes : (reportQueue s).lanes = s.lanes := reportCondition_lanes s _ _
@[simp] theorem reportQueue_staleLimit : (reportQueue s).staleLimit = s.staleLimit := reportCondition_staleLimit s _ _
@[simp] theorem reportQueue_divider : (reportQueue s).divider = s.divider := reportCondition_divider s _ _
@[simp] theorem reportQueue_secondInMinute : (reportQueue s).secondInMinute = s.secondInMinute := reportCondition_secondInMinute s _ _
@[simp] theorem reportQueue_intervalTaken : (reportQueue s).intervalTaken = s.intervalTaken := reportCondition_intervalTaken s _ _
@[simp] theorem reportQueue_plantMinute : (reportQueue s).plantMinute = s.plantMinute := reportCondition_plantMinute s _ _
@[simp] theorem reportQueue_timeValid : (reportQueue s).timeValid = s.timeValid := reportCondition_timeValid s _ _
@[simp] theorem reportQueue_queue : (reportQueue s).queue = s.queue := reportCondition_queue s _ _
@[simp] theorem reportQueue_claims : (reportQueue s).claims = s.claims := reportCondition_claims s _ _
@[simp] theorem reportQueue_claimTimeout : (reportQueue s).claimTimeout = s.claimTimeout := reportCondition_claimTimeout s _ _
@[simp] theorem reportQueue_releaseLog : (reportQueue s).releaseLog = s.releaseLog := reportCondition_releaseLog s _ _
@[simp] theorem reportQueue_masks : (reportQueue s).masks = s.masks := reportCondition_masks s _ _
@[simp] theorem reportQueue_link : (reportQueue s).link = s.link := reportCondition_link s _ _
@[simp] theorem reportQueue_transmitErrors : (reportQueue s).transmitErrors = s.transmitErrors := reportCondition_transmitErrors s _ _
@[simp] theorem reportQueue_receiveErrors : (reportQueue s).receiveErrors = s.receiveErrors := reportCondition_receiveErrors s _ _
@[simp] theorem reportQueue_inboxes : (reportQueue s).inboxes = s.inboxes := reportCondition_inboxes s _ _
@[simp] theorem reportQueue_lostMarks : (reportQueue s).lostMarks = s.lostMarks := reportCondition_lostMarks s _ _
@[simp] theorem reportQueue_answers : (reportQueue s).answers = s.answers := reportCondition_answers s _ _
@[simp] theorem reportQueue_transmitter : (reportQueue s).transmitter = s.transmitter := reportCondition_transmitter s _ _
@[simp] theorem reportQueue_strapPins : (reportQueue s).strapPins = s.strapPins := reportCondition_strapPins s _ _
@[simp] theorem reportQueue_straps : (reportQueue s).straps = s.straps := reportCondition_straps s _ _
@[simp] theorem reportQueue_phase : (reportQueue s).phase = s.phase := reportCondition_phase s _ _
@[simp] theorem reportQueue_startCause : (reportQueue s).startCause = s.startCause := reportCondition_startCause s _ _
@[simp] theorem reportQueue_decidedCause : (reportQueue s).decidedCause = s.decidedCause := reportCondition_decidedCause s _ _
@[simp] theorem reportQueue_selfTestPassed : (reportQueue s).selfTestPassed = s.selfTestPassed := reportCondition_selfTestPassed s _ _
@[simp] theorem reportQueue_retentionLost : (reportQueue s).retentionLost = s.retentionLost := reportCondition_retentionLost s _ _
@[simp] theorem reportQueue_ready : (reportQueue s).ready = s.ready := reportCondition_ready s _ _
@[simp] theorem reportQueue_pending : (reportQueue s).pending = s.pending := reportCondition_pending s _ _

/-! ### `reportOverdue` -/

@[simp] theorem reportOverdue_lots : (reportOverdue s).lots = s.lots := reportCondition_lots s _ _
@[simp] theorem reportOverdue_nextSerial : (reportOverdue s).nextSerial = s.nextSerial := reportCondition_nextSerial s _ _
@[simp] theorem reportOverdue_recipes : (reportOverdue s).recipes = s.recipes := reportCondition_recipes s _ _
@[simp] theorem reportOverdue_limits : (reportOverdue s).limits = s.limits := reportCondition_limits s _ _
@[simp] theorem reportOverdue_lines : (reportOverdue s).lines = s.lines := reportCondition_lines s _ _
@[simp] theorem reportOverdue_permits : (reportOverdue s).permits = s.permits := reportCondition_permits s _ _
@[simp] theorem reportOverdue_phRaw : (reportOverdue s).phRaw = s.phRaw := reportCondition_phRaw s _ _
@[simp] theorem reportOverdue_haltRegistered : (reportOverdue s).haltRegistered = s.haltRegistered := reportCondition_haltRegistered s _ _
@[simp] theorem reportOverdue_qualifying : (reportOverdue s).qualifying = s.qualifying := reportCondition_qualifying s _ _
@[simp] theorem reportOverdue_lanes : (reportOverdue s).lanes = s.lanes := reportCondition_lanes s _ _
@[simp] theorem reportOverdue_staleLimit : (reportOverdue s).staleLimit = s.staleLimit := reportCondition_staleLimit s _ _
@[simp] theorem reportOverdue_divider : (reportOverdue s).divider = s.divider := reportCondition_divider s _ _
@[simp] theorem reportOverdue_secondInMinute : (reportOverdue s).secondInMinute = s.secondInMinute := reportCondition_secondInMinute s _ _
@[simp] theorem reportOverdue_intervalTaken : (reportOverdue s).intervalTaken = s.intervalTaken := reportCondition_intervalTaken s _ _
@[simp] theorem reportOverdue_plantMinute : (reportOverdue s).plantMinute = s.plantMinute := reportCondition_plantMinute s _ _
@[simp] theorem reportOverdue_timeValid : (reportOverdue s).timeValid = s.timeValid := reportCondition_timeValid s _ _
@[simp] theorem reportOverdue_queue : (reportOverdue s).queue = s.queue := reportCondition_queue s _ _
@[simp] theorem reportOverdue_claims : (reportOverdue s).claims = s.claims := reportCondition_claims s _ _
@[simp] theorem reportOverdue_claimTimeout : (reportOverdue s).claimTimeout = s.claimTimeout := reportCondition_claimTimeout s _ _
@[simp] theorem reportOverdue_releaseLog : (reportOverdue s).releaseLog = s.releaseLog := reportCondition_releaseLog s _ _
@[simp] theorem reportOverdue_masks : (reportOverdue s).masks = s.masks := reportCondition_masks s _ _
@[simp] theorem reportOverdue_link : (reportOverdue s).link = s.link := reportCondition_link s _ _
@[simp] theorem reportOverdue_transmitErrors : (reportOverdue s).transmitErrors = s.transmitErrors := reportCondition_transmitErrors s _ _
@[simp] theorem reportOverdue_receiveErrors : (reportOverdue s).receiveErrors = s.receiveErrors := reportCondition_receiveErrors s _ _
@[simp] theorem reportOverdue_inboxes : (reportOverdue s).inboxes = s.inboxes := reportCondition_inboxes s _ _
@[simp] theorem reportOverdue_lostMarks : (reportOverdue s).lostMarks = s.lostMarks := reportCondition_lostMarks s _ _
@[simp] theorem reportOverdue_answers : (reportOverdue s).answers = s.answers := reportCondition_answers s _ _
@[simp] theorem reportOverdue_transmitter : (reportOverdue s).transmitter = s.transmitter := reportCondition_transmitter s _ _
@[simp] theorem reportOverdue_strapPins : (reportOverdue s).strapPins = s.strapPins := reportCondition_strapPins s _ _
@[simp] theorem reportOverdue_straps : (reportOverdue s).straps = s.straps := reportCondition_straps s _ _
@[simp] theorem reportOverdue_phase : (reportOverdue s).phase = s.phase := reportCondition_phase s _ _
@[simp] theorem reportOverdue_startCause : (reportOverdue s).startCause = s.startCause := reportCondition_startCause s _ _
@[simp] theorem reportOverdue_decidedCause : (reportOverdue s).decidedCause = s.decidedCause := reportCondition_decidedCause s _ _
@[simp] theorem reportOverdue_selfTestPassed : (reportOverdue s).selfTestPassed = s.selfTestPassed := reportCondition_selfTestPassed s _ _
@[simp] theorem reportOverdue_retentionLost : (reportOverdue s).retentionLost = s.retentionLost := reportCondition_retentionLost s _ _
@[simp] theorem reportOverdue_ready : (reportOverdue s).ready = s.ready := reportCondition_ready s _ _
@[simp] theorem reportOverdue_pending : (reportOverdue s).pending = s.pending := reportCondition_pending s _ _

/-! ### `reportRejected` -/

@[simp] theorem reportRejected_lots : (reportRejected s).lots = s.lots := reportCondition_lots s _ _
@[simp] theorem reportRejected_nextSerial : (reportRejected s).nextSerial = s.nextSerial := reportCondition_nextSerial s _ _
@[simp] theorem reportRejected_recipes : (reportRejected s).recipes = s.recipes := reportCondition_recipes s _ _
@[simp] theorem reportRejected_limits : (reportRejected s).limits = s.limits := reportCondition_limits s _ _
@[simp] theorem reportRejected_lines : (reportRejected s).lines = s.lines := reportCondition_lines s _ _
@[simp] theorem reportRejected_permits : (reportRejected s).permits = s.permits := reportCondition_permits s _ _
@[simp] theorem reportRejected_phRaw : (reportRejected s).phRaw = s.phRaw := reportCondition_phRaw s _ _
@[simp] theorem reportRejected_haltRegistered : (reportRejected s).haltRegistered = s.haltRegistered := reportCondition_haltRegistered s _ _
@[simp] theorem reportRejected_qualifying : (reportRejected s).qualifying = s.qualifying := reportCondition_qualifying s _ _
@[simp] theorem reportRejected_lanes : (reportRejected s).lanes = s.lanes := reportCondition_lanes s _ _
@[simp] theorem reportRejected_staleLimit : (reportRejected s).staleLimit = s.staleLimit := reportCondition_staleLimit s _ _
@[simp] theorem reportRejected_divider : (reportRejected s).divider = s.divider := reportCondition_divider s _ _
@[simp] theorem reportRejected_secondInMinute : (reportRejected s).secondInMinute = s.secondInMinute := reportCondition_secondInMinute s _ _
@[simp] theorem reportRejected_intervalTaken : (reportRejected s).intervalTaken = s.intervalTaken := reportCondition_intervalTaken s _ _
@[simp] theorem reportRejected_plantMinute : (reportRejected s).plantMinute = s.plantMinute := reportCondition_plantMinute s _ _
@[simp] theorem reportRejected_timeValid : (reportRejected s).timeValid = s.timeValid := reportCondition_timeValid s _ _
@[simp] theorem reportRejected_queue : (reportRejected s).queue = s.queue := reportCondition_queue s _ _
@[simp] theorem reportRejected_claims : (reportRejected s).claims = s.claims := reportCondition_claims s _ _
@[simp] theorem reportRejected_claimTimeout : (reportRejected s).claimTimeout = s.claimTimeout := reportCondition_claimTimeout s _ _
@[simp] theorem reportRejected_releaseLog : (reportRejected s).releaseLog = s.releaseLog := reportCondition_releaseLog s _ _
@[simp] theorem reportRejected_masks : (reportRejected s).masks = s.masks := reportCondition_masks s _ _
@[simp] theorem reportRejected_link : (reportRejected s).link = s.link := reportCondition_link s _ _
@[simp] theorem reportRejected_transmitErrors : (reportRejected s).transmitErrors = s.transmitErrors := reportCondition_transmitErrors s _ _
@[simp] theorem reportRejected_receiveErrors : (reportRejected s).receiveErrors = s.receiveErrors := reportCondition_receiveErrors s _ _
@[simp] theorem reportRejected_inboxes : (reportRejected s).inboxes = s.inboxes := reportCondition_inboxes s _ _
@[simp] theorem reportRejected_lostMarks : (reportRejected s).lostMarks = s.lostMarks := reportCondition_lostMarks s _ _
@[simp] theorem reportRejected_answers : (reportRejected s).answers = s.answers := reportCondition_answers s _ _
@[simp] theorem reportRejected_transmitter : (reportRejected s).transmitter = s.transmitter := reportCondition_transmitter s _ _
@[simp] theorem reportRejected_strapPins : (reportRejected s).strapPins = s.strapPins := reportCondition_strapPins s _ _
@[simp] theorem reportRejected_straps : (reportRejected s).straps = s.straps := reportCondition_straps s _ _
@[simp] theorem reportRejected_phase : (reportRejected s).phase = s.phase := reportCondition_phase s _ _
@[simp] theorem reportRejected_startCause : (reportRejected s).startCause = s.startCause := reportCondition_startCause s _ _
@[simp] theorem reportRejected_decidedCause : (reportRejected s).decidedCause = s.decidedCause := reportCondition_decidedCause s _ _
@[simp] theorem reportRejected_selfTestPassed : (reportRejected s).selfTestPassed = s.selfTestPassed := reportCondition_selfTestPassed s _ _
@[simp] theorem reportRejected_retentionLost : (reportRejected s).retentionLost = s.retentionLost := reportCondition_retentionLost s _ _
@[simp] theorem reportRejected_ready : (reportRejected s).ready = s.ready := reportCondition_ready s _ _
@[simp] theorem reportRejected_pending : (reportRejected s).pending = s.pending := reportCondition_pending s _ _

/-! ### `setLine` -/

@[simp] theorem setLine_lots (n : Line) (r : LineRecord) : (setLine n r s).lots = s.lots := rfl
@[simp] theorem setLine_nextSerial (n : Line) (r : LineRecord) : (setLine n r s).nextSerial = s.nextSerial := rfl
@[simp] theorem setLine_recipes (n : Line) (r : LineRecord) : (setLine n r s).recipes = s.recipes := rfl
@[simp] theorem setLine_limits (n : Line) (r : LineRecord) : (setLine n r s).limits = s.limits := rfl
@[simp] theorem setLine_phRaw (n : Line) (r : LineRecord) : (setLine n r s).phRaw = s.phRaw := rfl
@[simp] theorem setLine_haltRegistered (n : Line) (r : LineRecord) : (setLine n r s).haltRegistered = s.haltRegistered := rfl
@[simp] theorem setLine_qualifying (n : Line) (r : LineRecord) : (setLine n r s).qualifying = s.qualifying := rfl
@[simp] theorem setLine_lanes (n : Line) (r : LineRecord) : (setLine n r s).lanes = s.lanes := rfl
@[simp] theorem setLine_staleLimit (n : Line) (r : LineRecord) : (setLine n r s).staleLimit = s.staleLimit := rfl
@[simp] theorem setLine_divider (n : Line) (r : LineRecord) : (setLine n r s).divider = s.divider := rfl
@[simp] theorem setLine_secondInMinute (n : Line) (r : LineRecord) : (setLine n r s).secondInMinute = s.secondInMinute := rfl
@[simp] theorem setLine_intervalTaken (n : Line) (r : LineRecord) : (setLine n r s).intervalTaken = s.intervalTaken := rfl
@[simp] theorem setLine_plantMinute (n : Line) (r : LineRecord) : (setLine n r s).plantMinute = s.plantMinute := rfl
@[simp] theorem setLine_timeValid (n : Line) (r : LineRecord) : (setLine n r s).timeValid = s.timeValid := rfl
@[simp] theorem setLine_queue (n : Line) (r : LineRecord) : (setLine n r s).queue = s.queue := rfl
@[simp] theorem setLine_claims (n : Line) (r : LineRecord) : (setLine n r s).claims = s.claims := rfl
@[simp] theorem setLine_claimTimeout (n : Line) (r : LineRecord) : (setLine n r s).claimTimeout = s.claimTimeout := rfl
@[simp] theorem setLine_releaseLog (n : Line) (r : LineRecord) : (setLine n r s).releaseLog = s.releaseLog := rfl
@[simp] theorem setLine_pendingKinds (n : Line) (r : LineRecord) : (setLine n r s).pendingKinds = s.pendingKinds := rfl
@[simp] theorem setLine_masks (n : Line) (r : LineRecord) : (setLine n r s).masks = s.masks := rfl
@[simp] theorem setLine_link (n : Line) (r : LineRecord) : (setLine n r s).link = s.link := rfl
@[simp] theorem setLine_transmitErrors (n : Line) (r : LineRecord) : (setLine n r s).transmitErrors = s.transmitErrors := rfl
@[simp] theorem setLine_receiveErrors (n : Line) (r : LineRecord) : (setLine n r s).receiveErrors = s.receiveErrors := rfl
@[simp] theorem setLine_inboxes (n : Line) (r : LineRecord) : (setLine n r s).inboxes = s.inboxes := rfl
@[simp] theorem setLine_lostMarks (n : Line) (r : LineRecord) : (setLine n r s).lostMarks = s.lostMarks := rfl
@[simp] theorem setLine_slots (n : Line) (r : LineRecord) : (setLine n r s).slots = s.slots := rfl
@[simp] theorem setLine_answers (n : Line) (r : LineRecord) : (setLine n r s).answers = s.answers := rfl
@[simp] theorem setLine_transmitter (n : Line) (r : LineRecord) : (setLine n r s).transmitter = s.transmitter := rfl
@[simp] theorem setLine_strapPins (n : Line) (r : LineRecord) : (setLine n r s).strapPins = s.strapPins := rfl
@[simp] theorem setLine_straps (n : Line) (r : LineRecord) : (setLine n r s).straps = s.straps := rfl
@[simp] theorem setLine_phase (n : Line) (r : LineRecord) : (setLine n r s).phase = s.phase := rfl
@[simp] theorem setLine_startCause (n : Line) (r : LineRecord) : (setLine n r s).startCause = s.startCause := rfl
@[simp] theorem setLine_decidedCause (n : Line) (r : LineRecord) : (setLine n r s).decidedCause = s.decidedCause := rfl
@[simp] theorem setLine_selfTestPassed (n : Line) (r : LineRecord) : (setLine n r s).selfTestPassed = s.selfTestPassed := rfl
@[simp] theorem setLine_retentionLost (n : Line) (r : LineRecord) : (setLine n r s).retentionLost = s.retentionLost := rfl
@[simp] theorem setLine_ready (n : Line) (r : LineRecord) : (setLine n r s).ready = s.ready := rfl
@[simp] theorem setLine_pending (n : Line) (r : LineRecord) : (setLine n r s).pending = s.pending := rfl

/-! ### `registerHalt` -/

@[simp] theorem registerHalt_lots (level : Bool) : (registerHalt level s).lots = s.lots := rfl
@[simp] theorem registerHalt_nextSerial (level : Bool) : (registerHalt level s).nextSerial = s.nextSerial := rfl
@[simp] theorem registerHalt_recipes (level : Bool) : (registerHalt level s).recipes = s.recipes := rfl
@[simp] theorem registerHalt_limits (level : Bool) : (registerHalt level s).limits = s.limits := rfl
@[simp] theorem registerHalt_lines (level : Bool) : (registerHalt level s).lines = s.lines := rfl
@[simp] theorem registerHalt_phRaw (level : Bool) : (registerHalt level s).phRaw = s.phRaw := rfl
@[simp] theorem registerHalt_lanes (level : Bool) : (registerHalt level s).lanes = s.lanes := rfl
@[simp] theorem registerHalt_staleLimit (level : Bool) : (registerHalt level s).staleLimit = s.staleLimit := rfl
@[simp] theorem registerHalt_divider (level : Bool) : (registerHalt level s).divider = s.divider := rfl
@[simp] theorem registerHalt_secondInMinute (level : Bool) : (registerHalt level s).secondInMinute = s.secondInMinute := rfl
@[simp] theorem registerHalt_intervalTaken (level : Bool) : (registerHalt level s).intervalTaken = s.intervalTaken := rfl
@[simp] theorem registerHalt_plantMinute (level : Bool) : (registerHalt level s).plantMinute = s.plantMinute := rfl
@[simp] theorem registerHalt_timeValid (level : Bool) : (registerHalt level s).timeValid = s.timeValid := rfl
@[simp] theorem registerHalt_queue (level : Bool) : (registerHalt level s).queue = s.queue := rfl
@[simp] theorem registerHalt_claims (level : Bool) : (registerHalt level s).claims = s.claims := rfl
@[simp] theorem registerHalt_claimTimeout (level : Bool) : (registerHalt level s).claimTimeout = s.claimTimeout := rfl
@[simp] theorem registerHalt_releaseLog (level : Bool) : (registerHalt level s).releaseLog = s.releaseLog := rfl
@[simp] theorem registerHalt_pendingKinds (level : Bool) : (registerHalt level s).pendingKinds = s.pendingKinds := rfl
@[simp] theorem registerHalt_masks (level : Bool) : (registerHalt level s).masks = s.masks := rfl
@[simp] theorem registerHalt_link (level : Bool) : (registerHalt level s).link = s.link := rfl
@[simp] theorem registerHalt_transmitErrors (level : Bool) : (registerHalt level s).transmitErrors = s.transmitErrors := rfl
@[simp] theorem registerHalt_receiveErrors (level : Bool) : (registerHalt level s).receiveErrors = s.receiveErrors := rfl
@[simp] theorem registerHalt_inboxes (level : Bool) : (registerHalt level s).inboxes = s.inboxes := rfl
@[simp] theorem registerHalt_lostMarks (level : Bool) : (registerHalt level s).lostMarks = s.lostMarks := rfl
@[simp] theorem registerHalt_slots (level : Bool) : (registerHalt level s).slots = s.slots := rfl
@[simp] theorem registerHalt_answers (level : Bool) : (registerHalt level s).answers = s.answers := rfl
@[simp] theorem registerHalt_transmitter (level : Bool) : (registerHalt level s).transmitter = s.transmitter := rfl
@[simp] theorem registerHalt_strapPins (level : Bool) : (registerHalt level s).strapPins = s.strapPins := rfl
@[simp] theorem registerHalt_straps (level : Bool) : (registerHalt level s).straps = s.straps := rfl
@[simp] theorem registerHalt_phase (level : Bool) : (registerHalt level s).phase = s.phase := rfl
@[simp] theorem registerHalt_startCause (level : Bool) : (registerHalt level s).startCause = s.startCause := rfl
@[simp] theorem registerHalt_decidedCause (level : Bool) : (registerHalt level s).decidedCause = s.decidedCause := rfl
@[simp] theorem registerHalt_selfTestPassed (level : Bool) : (registerHalt level s).selfTestPassed = s.selfTestPassed := rfl
@[simp] theorem registerHalt_retentionLost (level : Bool) : (registerHalt level s).retentionLost = s.retentionLost := rfl
@[simp] theorem registerHalt_ready (level : Bool) : (registerHalt level s).ready = s.ready := rfl
@[simp] theorem registerHalt_pending (level : Bool) : (registerHalt level s).pending = s.pending := rfl

/-! ### `createLot` -/

@[simp] theorem createLot_recipes (l : Lot) : (createLot l s).recipes = s.recipes := rfl
@[simp] theorem createLot_limits (l : Lot) : (createLot l s).limits = s.limits := rfl
@[simp] theorem createLot_lines (l : Lot) : (createLot l s).lines = s.lines := rfl
@[simp] theorem createLot_permits (l : Lot) : (createLot l s).permits = s.permits := rfl
@[simp] theorem createLot_phRaw (l : Lot) : (createLot l s).phRaw = s.phRaw := rfl
@[simp] theorem createLot_haltRegistered (l : Lot) : (createLot l s).haltRegistered = s.haltRegistered := rfl
@[simp] theorem createLot_qualifying (l : Lot) : (createLot l s).qualifying = s.qualifying := rfl
@[simp] theorem createLot_lanes (l : Lot) : (createLot l s).lanes = s.lanes := rfl
@[simp] theorem createLot_staleLimit (l : Lot) : (createLot l s).staleLimit = s.staleLimit := rfl
@[simp] theorem createLot_divider (l : Lot) : (createLot l s).divider = s.divider := rfl
@[simp] theorem createLot_secondInMinute (l : Lot) : (createLot l s).secondInMinute = s.secondInMinute := rfl
@[simp] theorem createLot_intervalTaken (l : Lot) : (createLot l s).intervalTaken = s.intervalTaken := rfl
@[simp] theorem createLot_plantMinute (l : Lot) : (createLot l s).plantMinute = s.plantMinute := rfl
@[simp] theorem createLot_timeValid (l : Lot) : (createLot l s).timeValid = s.timeValid := rfl
@[simp] theorem createLot_queue (l : Lot) : (createLot l s).queue = s.queue := rfl
@[simp] theorem createLot_claims (l : Lot) : (createLot l s).claims = s.claims := rfl
@[simp] theorem createLot_claimTimeout (l : Lot) : (createLot l s).claimTimeout = s.claimTimeout := rfl
@[simp] theorem createLot_releaseLog (l : Lot) : (createLot l s).releaseLog = s.releaseLog := rfl
@[simp] theorem createLot_pendingKinds (l : Lot) : (createLot l s).pendingKinds = s.pendingKinds := rfl
@[simp] theorem createLot_masks (l : Lot) : (createLot l s).masks = s.masks := rfl
@[simp] theorem createLot_link (l : Lot) : (createLot l s).link = s.link := rfl
@[simp] theorem createLot_transmitErrors (l : Lot) : (createLot l s).transmitErrors = s.transmitErrors := rfl
@[simp] theorem createLot_receiveErrors (l : Lot) : (createLot l s).receiveErrors = s.receiveErrors := rfl
@[simp] theorem createLot_inboxes (l : Lot) : (createLot l s).inboxes = s.inboxes := rfl
@[simp] theorem createLot_lostMarks (l : Lot) : (createLot l s).lostMarks = s.lostMarks := rfl
@[simp] theorem createLot_slots (l : Lot) : (createLot l s).slots = s.slots := rfl
@[simp] theorem createLot_answers (l : Lot) : (createLot l s).answers = s.answers := rfl
@[simp] theorem createLot_transmitter (l : Lot) : (createLot l s).transmitter = s.transmitter := rfl
@[simp] theorem createLot_strapPins (l : Lot) : (createLot l s).strapPins = s.strapPins := rfl
@[simp] theorem createLot_straps (l : Lot) : (createLot l s).straps = s.straps := rfl
@[simp] theorem createLot_phase (l : Lot) : (createLot l s).phase = s.phase := rfl
@[simp] theorem createLot_startCause (l : Lot) : (createLot l s).startCause = s.startCause := rfl
@[simp] theorem createLot_decidedCause (l : Lot) : (createLot l s).decidedCause = s.decidedCause := rfl
@[simp] theorem createLot_selfTestPassed (l : Lot) : (createLot l s).selfTestPassed = s.selfTestPassed := rfl
@[simp] theorem createLot_retentionLost (l : Lot) : (createLot l s).retentionLost = s.retentionLost := rfl
@[simp] theorem createLot_ready (l : Lot) : (createLot l s).ready = s.ready := rfl
@[simp] theorem createLot_pending (l : Lot) : (createLot l s).pending = s.pending := rfl

/-! ### `changeLot` -/

@[simp] theorem changeLot_nextSerial (serial : Nat) (f : Lot → Lot) : (changeLot serial f s).nextSerial = s.nextSerial := rfl
@[simp] theorem changeLot_recipes (serial : Nat) (f : Lot → Lot) : (changeLot serial f s).recipes = s.recipes := rfl
@[simp] theorem changeLot_limits (serial : Nat) (f : Lot → Lot) : (changeLot serial f s).limits = s.limits := rfl
@[simp] theorem changeLot_lines (serial : Nat) (f : Lot → Lot) : (changeLot serial f s).lines = s.lines := rfl
@[simp] theorem changeLot_permits (serial : Nat) (f : Lot → Lot) : (changeLot serial f s).permits = s.permits := rfl
@[simp] theorem changeLot_phRaw (serial : Nat) (f : Lot → Lot) : (changeLot serial f s).phRaw = s.phRaw := rfl
@[simp] theorem changeLot_haltRegistered (serial : Nat) (f : Lot → Lot) : (changeLot serial f s).haltRegistered = s.haltRegistered := rfl
@[simp] theorem changeLot_qualifying (serial : Nat) (f : Lot → Lot) : (changeLot serial f s).qualifying = s.qualifying := rfl
@[simp] theorem changeLot_lanes (serial : Nat) (f : Lot → Lot) : (changeLot serial f s).lanes = s.lanes := rfl
@[simp] theorem changeLot_staleLimit (serial : Nat) (f : Lot → Lot) : (changeLot serial f s).staleLimit = s.staleLimit := rfl
@[simp] theorem changeLot_divider (serial : Nat) (f : Lot → Lot) : (changeLot serial f s).divider = s.divider := rfl
@[simp] theorem changeLot_secondInMinute (serial : Nat) (f : Lot → Lot) : (changeLot serial f s).secondInMinute = s.secondInMinute := rfl
@[simp] theorem changeLot_intervalTaken (serial : Nat) (f : Lot → Lot) : (changeLot serial f s).intervalTaken = s.intervalTaken := rfl
@[simp] theorem changeLot_plantMinute (serial : Nat) (f : Lot → Lot) : (changeLot serial f s).plantMinute = s.plantMinute := rfl
@[simp] theorem changeLot_timeValid (serial : Nat) (f : Lot → Lot) : (changeLot serial f s).timeValid = s.timeValid := rfl
@[simp] theorem changeLot_queue (serial : Nat) (f : Lot → Lot) : (changeLot serial f s).queue = s.queue := rfl
@[simp] theorem changeLot_claims (serial : Nat) (f : Lot → Lot) : (changeLot serial f s).claims = s.claims := rfl
@[simp] theorem changeLot_claimTimeout (serial : Nat) (f : Lot → Lot) : (changeLot serial f s).claimTimeout = s.claimTimeout := rfl
@[simp] theorem changeLot_releaseLog (serial : Nat) (f : Lot → Lot) : (changeLot serial f s).releaseLog = s.releaseLog := rfl
@[simp] theorem changeLot_pendingKinds (serial : Nat) (f : Lot → Lot) : (changeLot serial f s).pendingKinds = s.pendingKinds := rfl
@[simp] theorem changeLot_masks (serial : Nat) (f : Lot → Lot) : (changeLot serial f s).masks = s.masks := rfl
@[simp] theorem changeLot_link (serial : Nat) (f : Lot → Lot) : (changeLot serial f s).link = s.link := rfl
@[simp] theorem changeLot_transmitErrors (serial : Nat) (f : Lot → Lot) : (changeLot serial f s).transmitErrors = s.transmitErrors := rfl
@[simp] theorem changeLot_receiveErrors (serial : Nat) (f : Lot → Lot) : (changeLot serial f s).receiveErrors = s.receiveErrors := rfl
@[simp] theorem changeLot_inboxes (serial : Nat) (f : Lot → Lot) : (changeLot serial f s).inboxes = s.inboxes := rfl
@[simp] theorem changeLot_lostMarks (serial : Nat) (f : Lot → Lot) : (changeLot serial f s).lostMarks = s.lostMarks := rfl
@[simp] theorem changeLot_slots (serial : Nat) (f : Lot → Lot) : (changeLot serial f s).slots = s.slots := rfl
@[simp] theorem changeLot_answers (serial : Nat) (f : Lot → Lot) : (changeLot serial f s).answers = s.answers := rfl
@[simp] theorem changeLot_transmitter (serial : Nat) (f : Lot → Lot) : (changeLot serial f s).transmitter = s.transmitter := rfl
@[simp] theorem changeLot_strapPins (serial : Nat) (f : Lot → Lot) : (changeLot serial f s).strapPins = s.strapPins := rfl
@[simp] theorem changeLot_straps (serial : Nat) (f : Lot → Lot) : (changeLot serial f s).straps = s.straps := rfl
@[simp] theorem changeLot_phase (serial : Nat) (f : Lot → Lot) : (changeLot serial f s).phase = s.phase := rfl
@[simp] theorem changeLot_startCause (serial : Nat) (f : Lot → Lot) : (changeLot serial f s).startCause = s.startCause := rfl
@[simp] theorem changeLot_decidedCause (serial : Nat) (f : Lot → Lot) : (changeLot serial f s).decidedCause = s.decidedCause := rfl
@[simp] theorem changeLot_selfTestPassed (serial : Nat) (f : Lot → Lot) : (changeLot serial f s).selfTestPassed = s.selfTestPassed := rfl
@[simp] theorem changeLot_retentionLost (serial : Nat) (f : Lot → Lot) : (changeLot serial f s).retentionLost = s.retentionLost := rfl
@[simp] theorem changeLot_ready (serial : Nat) (f : Lot → Lot) : (changeLot serial f s).ready = s.ready := rfl
@[simp] theorem changeLot_pending (serial : Nat) (f : Lot → Lot) : (changeLot serial f s).pending = s.pending := rfl

/-! ### `freeLot` -/

@[simp] theorem freeLot_nextSerial (serial : Nat) : (freeLot serial s).nextSerial = s.nextSerial := rfl
@[simp] theorem freeLot_recipes (serial : Nat) : (freeLot serial s).recipes = s.recipes := rfl
@[simp] theorem freeLot_limits (serial : Nat) : (freeLot serial s).limits = s.limits := rfl
@[simp] theorem freeLot_lines (serial : Nat) : (freeLot serial s).lines = s.lines := rfl
@[simp] theorem freeLot_permits (serial : Nat) : (freeLot serial s).permits = s.permits := rfl
@[simp] theorem freeLot_phRaw (serial : Nat) : (freeLot serial s).phRaw = s.phRaw := rfl
@[simp] theorem freeLot_haltRegistered (serial : Nat) : (freeLot serial s).haltRegistered = s.haltRegistered := rfl
@[simp] theorem freeLot_qualifying (serial : Nat) : (freeLot serial s).qualifying = s.qualifying := rfl
@[simp] theorem freeLot_lanes (serial : Nat) : (freeLot serial s).lanes = s.lanes := rfl
@[simp] theorem freeLot_staleLimit (serial : Nat) : (freeLot serial s).staleLimit = s.staleLimit := rfl
@[simp] theorem freeLot_divider (serial : Nat) : (freeLot serial s).divider = s.divider := rfl
@[simp] theorem freeLot_secondInMinute (serial : Nat) : (freeLot serial s).secondInMinute = s.secondInMinute := rfl
@[simp] theorem freeLot_intervalTaken (serial : Nat) : (freeLot serial s).intervalTaken = s.intervalTaken := rfl
@[simp] theorem freeLot_plantMinute (serial : Nat) : (freeLot serial s).plantMinute = s.plantMinute := rfl
@[simp] theorem freeLot_timeValid (serial : Nat) : (freeLot serial s).timeValid = s.timeValid := rfl
@[simp] theorem freeLot_queue (serial : Nat) : (freeLot serial s).queue = s.queue := rfl
@[simp] theorem freeLot_claims (serial : Nat) : (freeLot serial s).claims = s.claims := rfl
@[simp] theorem freeLot_claimTimeout (serial : Nat) : (freeLot serial s).claimTimeout = s.claimTimeout := rfl
@[simp] theorem freeLot_releaseLog (serial : Nat) : (freeLot serial s).releaseLog = s.releaseLog := rfl
@[simp] theorem freeLot_pendingKinds (serial : Nat) : (freeLot serial s).pendingKinds = s.pendingKinds := rfl
@[simp] theorem freeLot_masks (serial : Nat) : (freeLot serial s).masks = s.masks := rfl
@[simp] theorem freeLot_link (serial : Nat) : (freeLot serial s).link = s.link := rfl
@[simp] theorem freeLot_transmitErrors (serial : Nat) : (freeLot serial s).transmitErrors = s.transmitErrors := rfl
@[simp] theorem freeLot_receiveErrors (serial : Nat) : (freeLot serial s).receiveErrors = s.receiveErrors := rfl
@[simp] theorem freeLot_inboxes (serial : Nat) : (freeLot serial s).inboxes = s.inboxes := rfl
@[simp] theorem freeLot_lostMarks (serial : Nat) : (freeLot serial s).lostMarks = s.lostMarks := rfl
@[simp] theorem freeLot_slots (serial : Nat) : (freeLot serial s).slots = s.slots := rfl
@[simp] theorem freeLot_answers (serial : Nat) : (freeLot serial s).answers = s.answers := rfl
@[simp] theorem freeLot_transmitter (serial : Nat) : (freeLot serial s).transmitter = s.transmitter := rfl
@[simp] theorem freeLot_strapPins (serial : Nat) : (freeLot serial s).strapPins = s.strapPins := rfl
@[simp] theorem freeLot_straps (serial : Nat) : (freeLot serial s).straps = s.straps := rfl
@[simp] theorem freeLot_phase (serial : Nat) : (freeLot serial s).phase = s.phase := rfl
@[simp] theorem freeLot_startCause (serial : Nat) : (freeLot serial s).startCause = s.startCause := rfl
@[simp] theorem freeLot_decidedCause (serial : Nat) : (freeLot serial s).decidedCause = s.decidedCause := rfl
@[simp] theorem freeLot_selfTestPassed (serial : Nat) : (freeLot serial s).selfTestPassed = s.selfTestPassed := rfl
@[simp] theorem freeLot_retentionLost (serial : Nat) : (freeLot serial s).retentionLost = s.retentionLost := rfl
@[simp] theorem freeLot_ready (serial : Nat) : (freeLot serial s).ready = s.ready := rfl
@[simp] theorem freeLot_pending (serial : Nat) : (freeLot serial s).pending = s.pending := rfl

/-! ### `setLane` -/

@[simp] theorem setLane_lots (b : Bay) (lane : Lane) : (setLane b lane s).lots = s.lots := rfl
@[simp] theorem setLane_nextSerial (b : Bay) (lane : Lane) : (setLane b lane s).nextSerial = s.nextSerial := rfl
@[simp] theorem setLane_recipes (b : Bay) (lane : Lane) : (setLane b lane s).recipes = s.recipes := rfl
@[simp] theorem setLane_limits (b : Bay) (lane : Lane) : (setLane b lane s).limits = s.limits := rfl
@[simp] theorem setLane_lines (b : Bay) (lane : Lane) : (setLane b lane s).lines = s.lines := rfl
@[simp] theorem setLane_permits (b : Bay) (lane : Lane) : (setLane b lane s).permits = s.permits := rfl
@[simp] theorem setLane_phRaw (b : Bay) (lane : Lane) : (setLane b lane s).phRaw = s.phRaw := rfl
@[simp] theorem setLane_haltRegistered (b : Bay) (lane : Lane) : (setLane b lane s).haltRegistered = s.haltRegistered := rfl
@[simp] theorem setLane_qualifying (b : Bay) (lane : Lane) : (setLane b lane s).qualifying = s.qualifying := rfl
@[simp] theorem setLane_staleLimit (b : Bay) (lane : Lane) : (setLane b lane s).staleLimit = s.staleLimit := rfl
@[simp] theorem setLane_divider (b : Bay) (lane : Lane) : (setLane b lane s).divider = s.divider := rfl
@[simp] theorem setLane_secondInMinute (b : Bay) (lane : Lane) : (setLane b lane s).secondInMinute = s.secondInMinute := rfl
@[simp] theorem setLane_intervalTaken (b : Bay) (lane : Lane) : (setLane b lane s).intervalTaken = s.intervalTaken := rfl
@[simp] theorem setLane_plantMinute (b : Bay) (lane : Lane) : (setLane b lane s).plantMinute = s.plantMinute := rfl
@[simp] theorem setLane_timeValid (b : Bay) (lane : Lane) : (setLane b lane s).timeValid = s.timeValid := rfl
@[simp] theorem setLane_queue (b : Bay) (lane : Lane) : (setLane b lane s).queue = s.queue := rfl
@[simp] theorem setLane_claims (b : Bay) (lane : Lane) : (setLane b lane s).claims = s.claims := rfl
@[simp] theorem setLane_claimTimeout (b : Bay) (lane : Lane) : (setLane b lane s).claimTimeout = s.claimTimeout := rfl
@[simp] theorem setLane_releaseLog (b : Bay) (lane : Lane) : (setLane b lane s).releaseLog = s.releaseLog := rfl
@[simp] theorem setLane_pendingKinds (b : Bay) (lane : Lane) : (setLane b lane s).pendingKinds = s.pendingKinds := rfl
@[simp] theorem setLane_masks (b : Bay) (lane : Lane) : (setLane b lane s).masks = s.masks := rfl
@[simp] theorem setLane_link (b : Bay) (lane : Lane) : (setLane b lane s).link = s.link := rfl
@[simp] theorem setLane_transmitErrors (b : Bay) (lane : Lane) : (setLane b lane s).transmitErrors = s.transmitErrors := rfl
@[simp] theorem setLane_receiveErrors (b : Bay) (lane : Lane) : (setLane b lane s).receiveErrors = s.receiveErrors := rfl
@[simp] theorem setLane_inboxes (b : Bay) (lane : Lane) : (setLane b lane s).inboxes = s.inboxes := rfl
@[simp] theorem setLane_lostMarks (b : Bay) (lane : Lane) : (setLane b lane s).lostMarks = s.lostMarks := rfl
@[simp] theorem setLane_slots (b : Bay) (lane : Lane) : (setLane b lane s).slots = s.slots := rfl
@[simp] theorem setLane_answers (b : Bay) (lane : Lane) : (setLane b lane s).answers = s.answers := rfl
@[simp] theorem setLane_transmitter (b : Bay) (lane : Lane) : (setLane b lane s).transmitter = s.transmitter := rfl
@[simp] theorem setLane_strapPins (b : Bay) (lane : Lane) : (setLane b lane s).strapPins = s.strapPins := rfl
@[simp] theorem setLane_straps (b : Bay) (lane : Lane) : (setLane b lane s).straps = s.straps := rfl
@[simp] theorem setLane_phase (b : Bay) (lane : Lane) : (setLane b lane s).phase = s.phase := rfl
@[simp] theorem setLane_startCause (b : Bay) (lane : Lane) : (setLane b lane s).startCause = s.startCause := rfl
@[simp] theorem setLane_decidedCause (b : Bay) (lane : Lane) : (setLane b lane s).decidedCause = s.decidedCause := rfl
@[simp] theorem setLane_selfTestPassed (b : Bay) (lane : Lane) : (setLane b lane s).selfTestPassed = s.selfTestPassed := rfl
@[simp] theorem setLane_retentionLost (b : Bay) (lane : Lane) : (setLane b lane s).retentionLost = s.retentionLost := rfl
@[simp] theorem setLane_ready (b : Bay) (lane : Lane) : (setLane b lane s).ready = s.ready := rfl
@[simp] theorem setLane_pending (b : Bay) (lane : Lane) : (setLane b lane s).pending = s.pending := rfl

/-! ### `placeLot` -/

@[simp] theorem placeLot_nextSerial (b : Bay) (serial : Nat) : (placeLot b serial s).nextSerial = s.nextSerial := rfl
@[simp] theorem placeLot_recipes (b : Bay) (serial : Nat) : (placeLot b serial s).recipes = s.recipes := rfl
@[simp] theorem placeLot_limits (b : Bay) (serial : Nat) : (placeLot b serial s).limits = s.limits := rfl
@[simp] theorem placeLot_lines (b : Bay) (serial : Nat) : (placeLot b serial s).lines = s.lines := rfl
@[simp] theorem placeLot_permits (b : Bay) (serial : Nat) : (placeLot b serial s).permits = s.permits := rfl
@[simp] theorem placeLot_phRaw (b : Bay) (serial : Nat) : (placeLot b serial s).phRaw = s.phRaw := rfl
@[simp] theorem placeLot_haltRegistered (b : Bay) (serial : Nat) : (placeLot b serial s).haltRegistered = s.haltRegistered := rfl
@[simp] theorem placeLot_qualifying (b : Bay) (serial : Nat) : (placeLot b serial s).qualifying = s.qualifying := rfl
@[simp] theorem placeLot_staleLimit (b : Bay) (serial : Nat) : (placeLot b serial s).staleLimit = s.staleLimit := rfl
@[simp] theorem placeLot_divider (b : Bay) (serial : Nat) : (placeLot b serial s).divider = s.divider := rfl
@[simp] theorem placeLot_secondInMinute (b : Bay) (serial : Nat) : (placeLot b serial s).secondInMinute = s.secondInMinute := rfl
@[simp] theorem placeLot_intervalTaken (b : Bay) (serial : Nat) : (placeLot b serial s).intervalTaken = s.intervalTaken := rfl
@[simp] theorem placeLot_plantMinute (b : Bay) (serial : Nat) : (placeLot b serial s).plantMinute = s.plantMinute := rfl
@[simp] theorem placeLot_timeValid (b : Bay) (serial : Nat) : (placeLot b serial s).timeValid = s.timeValid := rfl
@[simp] theorem placeLot_queue (b : Bay) (serial : Nat) : (placeLot b serial s).queue = s.queue := rfl
@[simp] theorem placeLot_claims (b : Bay) (serial : Nat) : (placeLot b serial s).claims = s.claims := rfl
@[simp] theorem placeLot_claimTimeout (b : Bay) (serial : Nat) : (placeLot b serial s).claimTimeout = s.claimTimeout := rfl
@[simp] theorem placeLot_releaseLog (b : Bay) (serial : Nat) : (placeLot b serial s).releaseLog = s.releaseLog := rfl
@[simp] theorem placeLot_pendingKinds (b : Bay) (serial : Nat) : (placeLot b serial s).pendingKinds = s.pendingKinds := rfl
@[simp] theorem placeLot_masks (b : Bay) (serial : Nat) : (placeLot b serial s).masks = s.masks := rfl
@[simp] theorem placeLot_link (b : Bay) (serial : Nat) : (placeLot b serial s).link = s.link := rfl
@[simp] theorem placeLot_transmitErrors (b : Bay) (serial : Nat) : (placeLot b serial s).transmitErrors = s.transmitErrors := rfl
@[simp] theorem placeLot_receiveErrors (b : Bay) (serial : Nat) : (placeLot b serial s).receiveErrors = s.receiveErrors := rfl
@[simp] theorem placeLot_inboxes (b : Bay) (serial : Nat) : (placeLot b serial s).inboxes = s.inboxes := rfl
@[simp] theorem placeLot_lostMarks (b : Bay) (serial : Nat) : (placeLot b serial s).lostMarks = s.lostMarks := rfl
@[simp] theorem placeLot_slots (b : Bay) (serial : Nat) : (placeLot b serial s).slots = s.slots := rfl
@[simp] theorem placeLot_answers (b : Bay) (serial : Nat) : (placeLot b serial s).answers = s.answers := rfl
@[simp] theorem placeLot_transmitter (b : Bay) (serial : Nat) : (placeLot b serial s).transmitter = s.transmitter := rfl
@[simp] theorem placeLot_strapPins (b : Bay) (serial : Nat) : (placeLot b serial s).strapPins = s.strapPins := rfl
@[simp] theorem placeLot_straps (b : Bay) (serial : Nat) : (placeLot b serial s).straps = s.straps := rfl
@[simp] theorem placeLot_phase (b : Bay) (serial : Nat) : (placeLot b serial s).phase = s.phase := rfl
@[simp] theorem placeLot_startCause (b : Bay) (serial : Nat) : (placeLot b serial s).startCause = s.startCause := rfl
@[simp] theorem placeLot_decidedCause (b : Bay) (serial : Nat) : (placeLot b serial s).decidedCause = s.decidedCause := rfl
@[simp] theorem placeLot_selfTestPassed (b : Bay) (serial : Nat) : (placeLot b serial s).selfTestPassed = s.selfTestPassed := rfl
@[simp] theorem placeLot_retentionLost (b : Bay) (serial : Nat) : (placeLot b serial s).retentionLost = s.retentionLost := rfl
@[simp] theorem placeLot_ready (b : Bay) (serial : Nat) : (placeLot b serial s).ready = s.ready := rfl
@[simp] theorem placeLot_pending (b : Bay) (serial : Nat) : (placeLot b serial s).pending = s.pending := rfl

/-! ### `removeFront` -/

@[simp] theorem removeFront_nextSerial (b : Bay) : (removeFront b s).nextSerial = s.nextSerial := rfl
@[simp] theorem removeFront_recipes (b : Bay) : (removeFront b s).recipes = s.recipes := rfl
@[simp] theorem removeFront_limits (b : Bay) : (removeFront b s).limits = s.limits := rfl
@[simp] theorem removeFront_lines (b : Bay) : (removeFront b s).lines = s.lines := rfl
@[simp] theorem removeFront_permits (b : Bay) : (removeFront b s).permits = s.permits := rfl
@[simp] theorem removeFront_phRaw (b : Bay) : (removeFront b s).phRaw = s.phRaw := rfl
@[simp] theorem removeFront_haltRegistered (b : Bay) : (removeFront b s).haltRegistered = s.haltRegistered := rfl
@[simp] theorem removeFront_qualifying (b : Bay) : (removeFront b s).qualifying = s.qualifying := rfl
@[simp] theorem removeFront_staleLimit (b : Bay) : (removeFront b s).staleLimit = s.staleLimit := rfl
@[simp] theorem removeFront_divider (b : Bay) : (removeFront b s).divider = s.divider := rfl
@[simp] theorem removeFront_secondInMinute (b : Bay) : (removeFront b s).secondInMinute = s.secondInMinute := rfl
@[simp] theorem removeFront_intervalTaken (b : Bay) : (removeFront b s).intervalTaken = s.intervalTaken := rfl
@[simp] theorem removeFront_plantMinute (b : Bay) : (removeFront b s).plantMinute = s.plantMinute := rfl
@[simp] theorem removeFront_timeValid (b : Bay) : (removeFront b s).timeValid = s.timeValid := rfl
@[simp] theorem removeFront_queue (b : Bay) : (removeFront b s).queue = s.queue := rfl
@[simp] theorem removeFront_claims (b : Bay) : (removeFront b s).claims = s.claims := rfl
@[simp] theorem removeFront_claimTimeout (b : Bay) : (removeFront b s).claimTimeout = s.claimTimeout := rfl
@[simp] theorem removeFront_releaseLog (b : Bay) : (removeFront b s).releaseLog = s.releaseLog := rfl
@[simp] theorem removeFront_pendingKinds (b : Bay) : (removeFront b s).pendingKinds = s.pendingKinds := rfl
@[simp] theorem removeFront_masks (b : Bay) : (removeFront b s).masks = s.masks := rfl
@[simp] theorem removeFront_link (b : Bay) : (removeFront b s).link = s.link := rfl
@[simp] theorem removeFront_transmitErrors (b : Bay) : (removeFront b s).transmitErrors = s.transmitErrors := rfl
@[simp] theorem removeFront_receiveErrors (b : Bay) : (removeFront b s).receiveErrors = s.receiveErrors := rfl
@[simp] theorem removeFront_inboxes (b : Bay) : (removeFront b s).inboxes = s.inboxes := rfl
@[simp] theorem removeFront_lostMarks (b : Bay) : (removeFront b s).lostMarks = s.lostMarks := rfl
@[simp] theorem removeFront_slots (b : Bay) : (removeFront b s).slots = s.slots := rfl
@[simp] theorem removeFront_answers (b : Bay) : (removeFront b s).answers = s.answers := rfl
@[simp] theorem removeFront_transmitter (b : Bay) : (removeFront b s).transmitter = s.transmitter := rfl
@[simp] theorem removeFront_strapPins (b : Bay) : (removeFront b s).strapPins = s.strapPins := rfl
@[simp] theorem removeFront_straps (b : Bay) : (removeFront b s).straps = s.straps := rfl
@[simp] theorem removeFront_phase (b : Bay) : (removeFront b s).phase = s.phase := rfl
@[simp] theorem removeFront_startCause (b : Bay) : (removeFront b s).startCause = s.startCause := rfl
@[simp] theorem removeFront_decidedCause (b : Bay) : (removeFront b s).decidedCause = s.decidedCause := rfl
@[simp] theorem removeFront_selfTestPassed (b : Bay) : (removeFront b s).selfTestPassed = s.selfTestPassed := rfl
@[simp] theorem removeFront_retentionLost (b : Bay) : (removeFront b s).retentionLost = s.retentionLost := rfl
@[simp] theorem removeFront_ready (b : Bay) : (removeFront b s).ready = s.ready := rfl
@[simp] theorem removeFront_pending (b : Bay) : (removeFront b s).pending = s.pending := rfl

/-! ### `joinTail` -/

@[simp] theorem joinTail_lots (serial : Nat) : (joinTail serial s).lots = s.lots := rfl
@[simp] theorem joinTail_nextSerial (serial : Nat) : (joinTail serial s).nextSerial = s.nextSerial := rfl
@[simp] theorem joinTail_recipes (serial : Nat) : (joinTail serial s).recipes = s.recipes := rfl
@[simp] theorem joinTail_limits (serial : Nat) : (joinTail serial s).limits = s.limits := rfl
@[simp] theorem joinTail_lines (serial : Nat) : (joinTail serial s).lines = s.lines := rfl
@[simp] theorem joinTail_permits (serial : Nat) : (joinTail serial s).permits = s.permits := rfl
@[simp] theorem joinTail_phRaw (serial : Nat) : (joinTail serial s).phRaw = s.phRaw := rfl
@[simp] theorem joinTail_haltRegistered (serial : Nat) : (joinTail serial s).haltRegistered = s.haltRegistered := rfl
@[simp] theorem joinTail_qualifying (serial : Nat) : (joinTail serial s).qualifying = s.qualifying := rfl
@[simp] theorem joinTail_lanes (serial : Nat) : (joinTail serial s).lanes = s.lanes := rfl
@[simp] theorem joinTail_staleLimit (serial : Nat) : (joinTail serial s).staleLimit = s.staleLimit := rfl
@[simp] theorem joinTail_divider (serial : Nat) : (joinTail serial s).divider = s.divider := rfl
@[simp] theorem joinTail_secondInMinute (serial : Nat) : (joinTail serial s).secondInMinute = s.secondInMinute := rfl
@[simp] theorem joinTail_intervalTaken (serial : Nat) : (joinTail serial s).intervalTaken = s.intervalTaken := rfl
@[simp] theorem joinTail_plantMinute (serial : Nat) : (joinTail serial s).plantMinute = s.plantMinute := rfl
@[simp] theorem joinTail_timeValid (serial : Nat) : (joinTail serial s).timeValid = s.timeValid := rfl
@[simp] theorem joinTail_claims (serial : Nat) : (joinTail serial s).claims = s.claims := rfl
@[simp] theorem joinTail_claimTimeout (serial : Nat) : (joinTail serial s).claimTimeout = s.claimTimeout := rfl
@[simp] theorem joinTail_releaseLog (serial : Nat) : (joinTail serial s).releaseLog = s.releaseLog := rfl
@[simp] theorem joinTail_pendingKinds (serial : Nat) : (joinTail serial s).pendingKinds = s.pendingKinds := rfl
@[simp] theorem joinTail_masks (serial : Nat) : (joinTail serial s).masks = s.masks := rfl
@[simp] theorem joinTail_link (serial : Nat) : (joinTail serial s).link = s.link := rfl
@[simp] theorem joinTail_transmitErrors (serial : Nat) : (joinTail serial s).transmitErrors = s.transmitErrors := rfl
@[simp] theorem joinTail_receiveErrors (serial : Nat) : (joinTail serial s).receiveErrors = s.receiveErrors := rfl
@[simp] theorem joinTail_inboxes (serial : Nat) : (joinTail serial s).inboxes = s.inboxes := rfl
@[simp] theorem joinTail_lostMarks (serial : Nat) : (joinTail serial s).lostMarks = s.lostMarks := rfl
@[simp] theorem joinTail_slots (serial : Nat) : (joinTail serial s).slots = s.slots := rfl
@[simp] theorem joinTail_answers (serial : Nat) : (joinTail serial s).answers = s.answers := rfl
@[simp] theorem joinTail_transmitter (serial : Nat) : (joinTail serial s).transmitter = s.transmitter := rfl
@[simp] theorem joinTail_strapPins (serial : Nat) : (joinTail serial s).strapPins = s.strapPins := rfl
@[simp] theorem joinTail_straps (serial : Nat) : (joinTail serial s).straps = s.straps := rfl
@[simp] theorem joinTail_phase (serial : Nat) : (joinTail serial s).phase = s.phase := rfl
@[simp] theorem joinTail_startCause (serial : Nat) : (joinTail serial s).startCause = s.startCause := rfl
@[simp] theorem joinTail_decidedCause (serial : Nat) : (joinTail serial s).decidedCause = s.decidedCause := rfl
@[simp] theorem joinTail_selfTestPassed (serial : Nat) : (joinTail serial s).selfTestPassed = s.selfTestPassed := rfl
@[simp] theorem joinTail_retentionLost (serial : Nat) : (joinTail serial s).retentionLost = s.retentionLost := rfl
@[simp] theorem joinTail_ready (serial : Nat) : (joinTail serial s).ready = s.ready := rfl
@[simp] theorem joinTail_pending (serial : Nat) : (joinTail serial s).pending = s.pending := rfl

/-! ### `rejoinHead` -/

@[simp] theorem rejoinHead_lots (serial : Nat) : (rejoinHead serial s).lots = s.lots := rfl
@[simp] theorem rejoinHead_nextSerial (serial : Nat) : (rejoinHead serial s).nextSerial = s.nextSerial := rfl
@[simp] theorem rejoinHead_recipes (serial : Nat) : (rejoinHead serial s).recipes = s.recipes := rfl
@[simp] theorem rejoinHead_limits (serial : Nat) : (rejoinHead serial s).limits = s.limits := rfl
@[simp] theorem rejoinHead_lines (serial : Nat) : (rejoinHead serial s).lines = s.lines := rfl
@[simp] theorem rejoinHead_permits (serial : Nat) : (rejoinHead serial s).permits = s.permits := rfl
@[simp] theorem rejoinHead_phRaw (serial : Nat) : (rejoinHead serial s).phRaw = s.phRaw := rfl
@[simp] theorem rejoinHead_haltRegistered (serial : Nat) : (rejoinHead serial s).haltRegistered = s.haltRegistered := rfl
@[simp] theorem rejoinHead_qualifying (serial : Nat) : (rejoinHead serial s).qualifying = s.qualifying := rfl
@[simp] theorem rejoinHead_lanes (serial : Nat) : (rejoinHead serial s).lanes = s.lanes := rfl
@[simp] theorem rejoinHead_staleLimit (serial : Nat) : (rejoinHead serial s).staleLimit = s.staleLimit := rfl
@[simp] theorem rejoinHead_divider (serial : Nat) : (rejoinHead serial s).divider = s.divider := rfl
@[simp] theorem rejoinHead_secondInMinute (serial : Nat) : (rejoinHead serial s).secondInMinute = s.secondInMinute := rfl
@[simp] theorem rejoinHead_intervalTaken (serial : Nat) : (rejoinHead serial s).intervalTaken = s.intervalTaken := rfl
@[simp] theorem rejoinHead_plantMinute (serial : Nat) : (rejoinHead serial s).plantMinute = s.plantMinute := rfl
@[simp] theorem rejoinHead_timeValid (serial : Nat) : (rejoinHead serial s).timeValid = s.timeValid := rfl
@[simp] theorem rejoinHead_claims (serial : Nat) : (rejoinHead serial s).claims = s.claims := rfl
@[simp] theorem rejoinHead_claimTimeout (serial : Nat) : (rejoinHead serial s).claimTimeout = s.claimTimeout := rfl
@[simp] theorem rejoinHead_releaseLog (serial : Nat) : (rejoinHead serial s).releaseLog = s.releaseLog := rfl
@[simp] theorem rejoinHead_pendingKinds (serial : Nat) : (rejoinHead serial s).pendingKinds = s.pendingKinds := rfl
@[simp] theorem rejoinHead_masks (serial : Nat) : (rejoinHead serial s).masks = s.masks := rfl
@[simp] theorem rejoinHead_link (serial : Nat) : (rejoinHead serial s).link = s.link := rfl
@[simp] theorem rejoinHead_transmitErrors (serial : Nat) : (rejoinHead serial s).transmitErrors = s.transmitErrors := rfl
@[simp] theorem rejoinHead_receiveErrors (serial : Nat) : (rejoinHead serial s).receiveErrors = s.receiveErrors := rfl
@[simp] theorem rejoinHead_inboxes (serial : Nat) : (rejoinHead serial s).inboxes = s.inboxes := rfl
@[simp] theorem rejoinHead_lostMarks (serial : Nat) : (rejoinHead serial s).lostMarks = s.lostMarks := rfl
@[simp] theorem rejoinHead_slots (serial : Nat) : (rejoinHead serial s).slots = s.slots := rfl
@[simp] theorem rejoinHead_answers (serial : Nat) : (rejoinHead serial s).answers = s.answers := rfl
@[simp] theorem rejoinHead_transmitter (serial : Nat) : (rejoinHead serial s).transmitter = s.transmitter := rfl
@[simp] theorem rejoinHead_strapPins (serial : Nat) : (rejoinHead serial s).strapPins = s.strapPins := rfl
@[simp] theorem rejoinHead_straps (serial : Nat) : (rejoinHead serial s).straps = s.straps := rfl
@[simp] theorem rejoinHead_phase (serial : Nat) : (rejoinHead serial s).phase = s.phase := rfl
@[simp] theorem rejoinHead_startCause (serial : Nat) : (rejoinHead serial s).startCause = s.startCause := rfl
@[simp] theorem rejoinHead_decidedCause (serial : Nat) : (rejoinHead serial s).decidedCause = s.decidedCause := rfl
@[simp] theorem rejoinHead_selfTestPassed (serial : Nat) : (rejoinHead serial s).selfTestPassed = s.selfTestPassed := rfl
@[simp] theorem rejoinHead_retentionLost (serial : Nat) : (rejoinHead serial s).retentionLost = s.retentionLost := rfl
@[simp] theorem rejoinHead_ready (serial : Nat) : (rejoinHead serial s).ready = s.ready := rfl
@[simp] theorem rejoinHead_pending (serial : Nat) : (rejoinHead serial s).pending = s.pending := rfl

/-! ### `leaveQueue` -/

@[simp] theorem leaveQueue_lots (serial : Nat) : (leaveQueue serial s).lots = s.lots := rfl
@[simp] theorem leaveQueue_nextSerial (serial : Nat) : (leaveQueue serial s).nextSerial = s.nextSerial := rfl
@[simp] theorem leaveQueue_recipes (serial : Nat) : (leaveQueue serial s).recipes = s.recipes := rfl
@[simp] theorem leaveQueue_limits (serial : Nat) : (leaveQueue serial s).limits = s.limits := rfl
@[simp] theorem leaveQueue_lines (serial : Nat) : (leaveQueue serial s).lines = s.lines := rfl
@[simp] theorem leaveQueue_permits (serial : Nat) : (leaveQueue serial s).permits = s.permits := rfl
@[simp] theorem leaveQueue_phRaw (serial : Nat) : (leaveQueue serial s).phRaw = s.phRaw := rfl
@[simp] theorem leaveQueue_haltRegistered (serial : Nat) : (leaveQueue serial s).haltRegistered = s.haltRegistered := rfl
@[simp] theorem leaveQueue_qualifying (serial : Nat) : (leaveQueue serial s).qualifying = s.qualifying := rfl
@[simp] theorem leaveQueue_lanes (serial : Nat) : (leaveQueue serial s).lanes = s.lanes := rfl
@[simp] theorem leaveQueue_staleLimit (serial : Nat) : (leaveQueue serial s).staleLimit = s.staleLimit := rfl
@[simp] theorem leaveQueue_divider (serial : Nat) : (leaveQueue serial s).divider = s.divider := rfl
@[simp] theorem leaveQueue_secondInMinute (serial : Nat) : (leaveQueue serial s).secondInMinute = s.secondInMinute := rfl
@[simp] theorem leaveQueue_intervalTaken (serial : Nat) : (leaveQueue serial s).intervalTaken = s.intervalTaken := rfl
@[simp] theorem leaveQueue_plantMinute (serial : Nat) : (leaveQueue serial s).plantMinute = s.plantMinute := rfl
@[simp] theorem leaveQueue_timeValid (serial : Nat) : (leaveQueue serial s).timeValid = s.timeValid := rfl
@[simp] theorem leaveQueue_claims (serial : Nat) : (leaveQueue serial s).claims = s.claims := rfl
@[simp] theorem leaveQueue_claimTimeout (serial : Nat) : (leaveQueue serial s).claimTimeout = s.claimTimeout := rfl
@[simp] theorem leaveQueue_releaseLog (serial : Nat) : (leaveQueue serial s).releaseLog = s.releaseLog := rfl
@[simp] theorem leaveQueue_pendingKinds (serial : Nat) : (leaveQueue serial s).pendingKinds = s.pendingKinds := rfl
@[simp] theorem leaveQueue_masks (serial : Nat) : (leaveQueue serial s).masks = s.masks := rfl
@[simp] theorem leaveQueue_link (serial : Nat) : (leaveQueue serial s).link = s.link := rfl
@[simp] theorem leaveQueue_transmitErrors (serial : Nat) : (leaveQueue serial s).transmitErrors = s.transmitErrors := rfl
@[simp] theorem leaveQueue_receiveErrors (serial : Nat) : (leaveQueue serial s).receiveErrors = s.receiveErrors := rfl
@[simp] theorem leaveQueue_inboxes (serial : Nat) : (leaveQueue serial s).inboxes = s.inboxes := rfl
@[simp] theorem leaveQueue_lostMarks (serial : Nat) : (leaveQueue serial s).lostMarks = s.lostMarks := rfl
@[simp] theorem leaveQueue_slots (serial : Nat) : (leaveQueue serial s).slots = s.slots := rfl
@[simp] theorem leaveQueue_answers (serial : Nat) : (leaveQueue serial s).answers = s.answers := rfl
@[simp] theorem leaveQueue_transmitter (serial : Nat) : (leaveQueue serial s).transmitter = s.transmitter := rfl
@[simp] theorem leaveQueue_strapPins (serial : Nat) : (leaveQueue serial s).strapPins = s.strapPins := rfl
@[simp] theorem leaveQueue_straps (serial : Nat) : (leaveQueue serial s).straps = s.straps := rfl
@[simp] theorem leaveQueue_phase (serial : Nat) : (leaveQueue serial s).phase = s.phase := rfl
@[simp] theorem leaveQueue_startCause (serial : Nat) : (leaveQueue serial s).startCause = s.startCause := rfl
@[simp] theorem leaveQueue_decidedCause (serial : Nat) : (leaveQueue serial s).decidedCause = s.decidedCause := rfl
@[simp] theorem leaveQueue_selfTestPassed (serial : Nat) : (leaveQueue serial s).selfTestPassed = s.selfTestPassed := rfl
@[simp] theorem leaveQueue_retentionLost (serial : Nat) : (leaveQueue serial s).retentionLost = s.retentionLost := rfl
@[simp] theorem leaveQueue_ready (serial : Nat) : (leaveQueue serial s).ready = s.ready := rfl
@[simp] theorem leaveQueue_pending (serial : Nat) : (leaveQueue serial s).pending = s.pending := rfl

/-! ### `joinFront` -/

@[simp] theorem joinFront_lots (b : Bay) : (joinFront b s).lots = s.lots := rfl
@[simp] theorem joinFront_nextSerial (b : Bay) : (joinFront b s).nextSerial = s.nextSerial := rfl
@[simp] theorem joinFront_recipes (b : Bay) : (joinFront b s).recipes = s.recipes := rfl
@[simp] theorem joinFront_limits (b : Bay) : (joinFront b s).limits = s.limits := rfl
@[simp] theorem joinFront_lines (b : Bay) : (joinFront b s).lines = s.lines := rfl
@[simp] theorem joinFront_permits (b : Bay) : (joinFront b s).permits = s.permits := rfl
@[simp] theorem joinFront_phRaw (b : Bay) : (joinFront b s).phRaw = s.phRaw := rfl
@[simp] theorem joinFront_haltRegistered (b : Bay) : (joinFront b s).haltRegistered = s.haltRegistered := rfl
@[simp] theorem joinFront_qualifying (b : Bay) : (joinFront b s).qualifying = s.qualifying := rfl
@[simp] theorem joinFront_lanes (b : Bay) : (joinFront b s).lanes = s.lanes := rfl
@[simp] theorem joinFront_staleLimit (b : Bay) : (joinFront b s).staleLimit = s.staleLimit := rfl
@[simp] theorem joinFront_divider (b : Bay) : (joinFront b s).divider = s.divider := rfl
@[simp] theorem joinFront_secondInMinute (b : Bay) : (joinFront b s).secondInMinute = s.secondInMinute := rfl
@[simp] theorem joinFront_intervalTaken (b : Bay) : (joinFront b s).intervalTaken = s.intervalTaken := rfl
@[simp] theorem joinFront_plantMinute (b : Bay) : (joinFront b s).plantMinute = s.plantMinute := rfl
@[simp] theorem joinFront_timeValid (b : Bay) : (joinFront b s).timeValid = s.timeValid := rfl
@[simp] theorem joinFront_claims (b : Bay) : (joinFront b s).claims = s.claims := rfl
@[simp] theorem joinFront_claimTimeout (b : Bay) : (joinFront b s).claimTimeout = s.claimTimeout := rfl
@[simp] theorem joinFront_releaseLog (b : Bay) : (joinFront b s).releaseLog = s.releaseLog := rfl
@[simp] theorem joinFront_pendingKinds (b : Bay) : (joinFront b s).pendingKinds = s.pendingKinds := rfl
@[simp] theorem joinFront_masks (b : Bay) : (joinFront b s).masks = s.masks := rfl
@[simp] theorem joinFront_link (b : Bay) : (joinFront b s).link = s.link := rfl
@[simp] theorem joinFront_transmitErrors (b : Bay) : (joinFront b s).transmitErrors = s.transmitErrors := rfl
@[simp] theorem joinFront_receiveErrors (b : Bay) : (joinFront b s).receiveErrors = s.receiveErrors := rfl
@[simp] theorem joinFront_inboxes (b : Bay) : (joinFront b s).inboxes = s.inboxes := rfl
@[simp] theorem joinFront_lostMarks (b : Bay) : (joinFront b s).lostMarks = s.lostMarks := rfl
@[simp] theorem joinFront_slots (b : Bay) : (joinFront b s).slots = s.slots := rfl
@[simp] theorem joinFront_answers (b : Bay) : (joinFront b s).answers = s.answers := rfl
@[simp] theorem joinFront_transmitter (b : Bay) : (joinFront b s).transmitter = s.transmitter := rfl
@[simp] theorem joinFront_strapPins (b : Bay) : (joinFront b s).strapPins = s.strapPins := rfl
@[simp] theorem joinFront_straps (b : Bay) : (joinFront b s).straps = s.straps := rfl
@[simp] theorem joinFront_phase (b : Bay) : (joinFront b s).phase = s.phase := rfl
@[simp] theorem joinFront_startCause (b : Bay) : (joinFront b s).startCause = s.startCause := rfl
@[simp] theorem joinFront_decidedCause (b : Bay) : (joinFront b s).decidedCause = s.decidedCause := rfl
@[simp] theorem joinFront_selfTestPassed (b : Bay) : (joinFront b s).selfTestPassed = s.selfTestPassed := rfl
@[simp] theorem joinFront_retentionLost (b : Bay) : (joinFront b s).retentionLost = s.retentionLost := rfl
@[simp] theorem joinFront_ready (b : Bay) : (joinFront b s).ready = s.ready := rfl
@[simp] theorem joinFront_pending (b : Bay) : (joinFront b s).pending = s.pending := rfl

/-! ### `handOver` -/

@[simp] theorem handOver_lots (b : Bay) : (handOver b s).lots = s.lots := by simp [handOver]
@[simp] theorem handOver_nextSerial (b : Bay) : (handOver b s).nextSerial = s.nextSerial := by simp [handOver]
@[simp] theorem handOver_recipes (b : Bay) : (handOver b s).recipes = s.recipes := by simp [handOver]
@[simp] theorem handOver_limits (b : Bay) : (handOver b s).limits = s.limits := by simp [handOver]
@[simp] theorem handOver_lines (b : Bay) : (handOver b s).lines = s.lines := by simp [handOver]
@[simp] theorem handOver_permits (b : Bay) : (handOver b s).permits = s.permits := by simp [handOver]
@[simp] theorem handOver_phRaw (b : Bay) : (handOver b s).phRaw = s.phRaw := by simp [handOver]
@[simp] theorem handOver_haltRegistered (b : Bay) : (handOver b s).haltRegistered = s.haltRegistered := by simp [handOver]
@[simp] theorem handOver_qualifying (b : Bay) : (handOver b s).qualifying = s.qualifying := by simp [handOver]
@[simp] theorem handOver_lanes (b : Bay) : (handOver b s).lanes = s.lanes := by simp [handOver]
@[simp] theorem handOver_staleLimit (b : Bay) : (handOver b s).staleLimit = s.staleLimit := by simp [handOver]
@[simp] theorem handOver_divider (b : Bay) : (handOver b s).divider = s.divider := by simp [handOver]
@[simp] theorem handOver_secondInMinute (b : Bay) : (handOver b s).secondInMinute = s.secondInMinute := by simp [handOver]
@[simp] theorem handOver_intervalTaken (b : Bay) : (handOver b s).intervalTaken = s.intervalTaken := by simp [handOver]
@[simp] theorem handOver_plantMinute (b : Bay) : (handOver b s).plantMinute = s.plantMinute := by simp [handOver]
@[simp] theorem handOver_timeValid (b : Bay) : (handOver b s).timeValid = s.timeValid := by simp [handOver]
@[simp] theorem handOver_claims (b : Bay) : (handOver b s).claims = s.claims := by simp [handOver]
@[simp] theorem handOver_claimTimeout (b : Bay) : (handOver b s).claimTimeout = s.claimTimeout := by simp [handOver]
@[simp] theorem handOver_releaseLog (b : Bay) : (handOver b s).releaseLog = s.releaseLog := by simp [handOver]
@[simp] theorem handOver_masks (b : Bay) : (handOver b s).masks = s.masks := by simp [handOver]
@[simp] theorem handOver_link (b : Bay) : (handOver b s).link = s.link := by simp [handOver]
@[simp] theorem handOver_transmitErrors (b : Bay) : (handOver b s).transmitErrors = s.transmitErrors := by simp [handOver]
@[simp] theorem handOver_receiveErrors (b : Bay) : (handOver b s).receiveErrors = s.receiveErrors := by simp [handOver]
@[simp] theorem handOver_inboxes (b : Bay) : (handOver b s).inboxes = s.inboxes := by simp [handOver]
@[simp] theorem handOver_lostMarks (b : Bay) : (handOver b s).lostMarks = s.lostMarks := by simp [handOver]
@[simp] theorem handOver_answers (b : Bay) : (handOver b s).answers = s.answers := by simp [handOver]
@[simp] theorem handOver_transmitter (b : Bay) : (handOver b s).transmitter = s.transmitter := by simp [handOver]
@[simp] theorem handOver_strapPins (b : Bay) : (handOver b s).strapPins = s.strapPins := by simp [handOver]
@[simp] theorem handOver_straps (b : Bay) : (handOver b s).straps = s.straps := by simp [handOver]
@[simp] theorem handOver_phase (b : Bay) : (handOver b s).phase = s.phase := by simp [handOver]
@[simp] theorem handOver_startCause (b : Bay) : (handOver b s).startCause = s.startCause := by simp [handOver]
@[simp] theorem handOver_decidedCause (b : Bay) : (handOver b s).decidedCause = s.decidedCause := by simp [handOver]
@[simp] theorem handOver_selfTestPassed (b : Bay) : (handOver b s).selfTestPassed = s.selfTestPassed := by simp [handOver]
@[simp] theorem handOver_retentionLost (b : Bay) : (handOver b s).retentionLost = s.retentionLost := by simp [handOver]
@[simp] theorem handOver_ready (b : Bay) : (handOver b s).ready = s.ready := by simp [handOver]
@[simp] theorem handOver_pending (b : Bay) : (handOver b s).pending = s.pending := by simp [handOver]

/-! ### `removeClaim` -/

@[simp] theorem removeClaim_lots (serial : Nat) : (removeClaim serial s).lots = s.lots := rfl
@[simp] theorem removeClaim_nextSerial (serial : Nat) : (removeClaim serial s).nextSerial = s.nextSerial := rfl
@[simp] theorem removeClaim_recipes (serial : Nat) : (removeClaim serial s).recipes = s.recipes := rfl
@[simp] theorem removeClaim_limits (serial : Nat) : (removeClaim serial s).limits = s.limits := rfl
@[simp] theorem removeClaim_lines (serial : Nat) : (removeClaim serial s).lines = s.lines := rfl
@[simp] theorem removeClaim_permits (serial : Nat) : (removeClaim serial s).permits = s.permits := rfl
@[simp] theorem removeClaim_phRaw (serial : Nat) : (removeClaim serial s).phRaw = s.phRaw := rfl
@[simp] theorem removeClaim_haltRegistered (serial : Nat) : (removeClaim serial s).haltRegistered = s.haltRegistered := rfl
@[simp] theorem removeClaim_qualifying (serial : Nat) : (removeClaim serial s).qualifying = s.qualifying := rfl
@[simp] theorem removeClaim_lanes (serial : Nat) : (removeClaim serial s).lanes = s.lanes := rfl
@[simp] theorem removeClaim_staleLimit (serial : Nat) : (removeClaim serial s).staleLimit = s.staleLimit := rfl
@[simp] theorem removeClaim_divider (serial : Nat) : (removeClaim serial s).divider = s.divider := rfl
@[simp] theorem removeClaim_secondInMinute (serial : Nat) : (removeClaim serial s).secondInMinute = s.secondInMinute := rfl
@[simp] theorem removeClaim_intervalTaken (serial : Nat) : (removeClaim serial s).intervalTaken = s.intervalTaken := rfl
@[simp] theorem removeClaim_plantMinute (serial : Nat) : (removeClaim serial s).plantMinute = s.plantMinute := rfl
@[simp] theorem removeClaim_timeValid (serial : Nat) : (removeClaim serial s).timeValid = s.timeValid := rfl
@[simp] theorem removeClaim_queue (serial : Nat) : (removeClaim serial s).queue = s.queue := rfl
@[simp] theorem removeClaim_claimTimeout (serial : Nat) : (removeClaim serial s).claimTimeout = s.claimTimeout := rfl
@[simp] theorem removeClaim_releaseLog (serial : Nat) : (removeClaim serial s).releaseLog = s.releaseLog := rfl
@[simp] theorem removeClaim_pendingKinds (serial : Nat) : (removeClaim serial s).pendingKinds = s.pendingKinds := rfl
@[simp] theorem removeClaim_masks (serial : Nat) : (removeClaim serial s).masks = s.masks := rfl
@[simp] theorem removeClaim_link (serial : Nat) : (removeClaim serial s).link = s.link := rfl
@[simp] theorem removeClaim_transmitErrors (serial : Nat) : (removeClaim serial s).transmitErrors = s.transmitErrors := rfl
@[simp] theorem removeClaim_receiveErrors (serial : Nat) : (removeClaim serial s).receiveErrors = s.receiveErrors := rfl
@[simp] theorem removeClaim_inboxes (serial : Nat) : (removeClaim serial s).inboxes = s.inboxes := rfl
@[simp] theorem removeClaim_lostMarks (serial : Nat) : (removeClaim serial s).lostMarks = s.lostMarks := rfl
@[simp] theorem removeClaim_slots (serial : Nat) : (removeClaim serial s).slots = s.slots := rfl
@[simp] theorem removeClaim_answers (serial : Nat) : (removeClaim serial s).answers = s.answers := rfl
@[simp] theorem removeClaim_transmitter (serial : Nat) : (removeClaim serial s).transmitter = s.transmitter := rfl
@[simp] theorem removeClaim_strapPins (serial : Nat) : (removeClaim serial s).strapPins = s.strapPins := rfl
@[simp] theorem removeClaim_straps (serial : Nat) : (removeClaim serial s).straps = s.straps := rfl
@[simp] theorem removeClaim_phase (serial : Nat) : (removeClaim serial s).phase = s.phase := rfl
@[simp] theorem removeClaim_startCause (serial : Nat) : (removeClaim serial s).startCause = s.startCause := rfl
@[simp] theorem removeClaim_decidedCause (serial : Nat) : (removeClaim serial s).decidedCause = s.decidedCause := rfl
@[simp] theorem removeClaim_selfTestPassed (serial : Nat) : (removeClaim serial s).selfTestPassed = s.selfTestPassed := rfl
@[simp] theorem removeClaim_retentionLost (serial : Nat) : (removeClaim serial s).retentionLost = s.retentionLost := rfl
@[simp] theorem removeClaim_ready (serial : Nat) : (removeClaim serial s).ready = s.ready := rfl
@[simp] theorem removeClaim_pending (serial : Nat) : (removeClaim serial s).pending = s.pending := rfl

/-! ### `returnClaim` -/

@[simp] theorem returnClaim_nextSerial (serial : Nat) : (returnClaim serial s).nextSerial = s.nextSerial := rfl
@[simp] theorem returnClaim_recipes (serial : Nat) : (returnClaim serial s).recipes = s.recipes := rfl
@[simp] theorem returnClaim_limits (serial : Nat) : (returnClaim serial s).limits = s.limits := rfl
@[simp] theorem returnClaim_lines (serial : Nat) : (returnClaim serial s).lines = s.lines := rfl
@[simp] theorem returnClaim_permits (serial : Nat) : (returnClaim serial s).permits = s.permits := rfl
@[simp] theorem returnClaim_phRaw (serial : Nat) : (returnClaim serial s).phRaw = s.phRaw := rfl
@[simp] theorem returnClaim_haltRegistered (serial : Nat) : (returnClaim serial s).haltRegistered = s.haltRegistered := rfl
@[simp] theorem returnClaim_qualifying (serial : Nat) : (returnClaim serial s).qualifying = s.qualifying := rfl
@[simp] theorem returnClaim_lanes (serial : Nat) : (returnClaim serial s).lanes = s.lanes := rfl
@[simp] theorem returnClaim_staleLimit (serial : Nat) : (returnClaim serial s).staleLimit = s.staleLimit := rfl
@[simp] theorem returnClaim_divider (serial : Nat) : (returnClaim serial s).divider = s.divider := rfl
@[simp] theorem returnClaim_secondInMinute (serial : Nat) : (returnClaim serial s).secondInMinute = s.secondInMinute := rfl
@[simp] theorem returnClaim_intervalTaken (serial : Nat) : (returnClaim serial s).intervalTaken = s.intervalTaken := rfl
@[simp] theorem returnClaim_plantMinute (serial : Nat) : (returnClaim serial s).plantMinute = s.plantMinute := rfl
@[simp] theorem returnClaim_timeValid (serial : Nat) : (returnClaim serial s).timeValid = s.timeValid := rfl
@[simp] theorem returnClaim_claimTimeout (serial : Nat) : (returnClaim serial s).claimTimeout = s.claimTimeout := rfl
@[simp] theorem returnClaim_releaseLog (serial : Nat) : (returnClaim serial s).releaseLog = s.releaseLog := rfl
@[simp] theorem returnClaim_pendingKinds (serial : Nat) : (returnClaim serial s).pendingKinds = s.pendingKinds := rfl
@[simp] theorem returnClaim_masks (serial : Nat) : (returnClaim serial s).masks = s.masks := rfl
@[simp] theorem returnClaim_link (serial : Nat) : (returnClaim serial s).link = s.link := rfl
@[simp] theorem returnClaim_transmitErrors (serial : Nat) : (returnClaim serial s).transmitErrors = s.transmitErrors := rfl
@[simp] theorem returnClaim_receiveErrors (serial : Nat) : (returnClaim serial s).receiveErrors = s.receiveErrors := rfl
@[simp] theorem returnClaim_inboxes (serial : Nat) : (returnClaim serial s).inboxes = s.inboxes := rfl
@[simp] theorem returnClaim_lostMarks (serial : Nat) : (returnClaim serial s).lostMarks = s.lostMarks := rfl
@[simp] theorem returnClaim_slots (serial : Nat) : (returnClaim serial s).slots = s.slots := rfl
@[simp] theorem returnClaim_answers (serial : Nat) : (returnClaim serial s).answers = s.answers := rfl
@[simp] theorem returnClaim_transmitter (serial : Nat) : (returnClaim serial s).transmitter = s.transmitter := rfl
@[simp] theorem returnClaim_strapPins (serial : Nat) : (returnClaim serial s).strapPins = s.strapPins := rfl
@[simp] theorem returnClaim_straps (serial : Nat) : (returnClaim serial s).straps = s.straps := rfl
@[simp] theorem returnClaim_phase (serial : Nat) : (returnClaim serial s).phase = s.phase := rfl
@[simp] theorem returnClaim_startCause (serial : Nat) : (returnClaim serial s).startCause = s.startCause := rfl
@[simp] theorem returnClaim_decidedCause (serial : Nat) : (returnClaim serial s).decidedCause = s.decidedCause := rfl
@[simp] theorem returnClaim_selfTestPassed (serial : Nat) : (returnClaim serial s).selfTestPassed = s.selfTestPassed := rfl
@[simp] theorem returnClaim_retentionLost (serial : Nat) : (returnClaim serial s).retentionLost = s.retentionLost := rfl
@[simp] theorem returnClaim_ready (serial : Nat) : (returnClaim serial s).ready = s.ready := rfl
@[simp] theorem returnClaim_pending (serial : Nat) : (returnClaim serial s).pending = s.pending := rfl

/-! ### `revokeClaim` -/

@[simp] theorem revokeClaim_lots (serial : Nat) : (revokeClaim serial s).lots = s.lots := rfl
@[simp] theorem revokeClaim_nextSerial (serial : Nat) : (revokeClaim serial s).nextSerial = s.nextSerial := rfl
@[simp] theorem revokeClaim_recipes (serial : Nat) : (revokeClaim serial s).recipes = s.recipes := rfl
@[simp] theorem revokeClaim_limits (serial : Nat) : (revokeClaim serial s).limits = s.limits := rfl
@[simp] theorem revokeClaim_lines (serial : Nat) : (revokeClaim serial s).lines = s.lines := rfl
@[simp] theorem revokeClaim_permits (serial : Nat) : (revokeClaim serial s).permits = s.permits := rfl
@[simp] theorem revokeClaim_phRaw (serial : Nat) : (revokeClaim serial s).phRaw = s.phRaw := rfl
@[simp] theorem revokeClaim_haltRegistered (serial : Nat) : (revokeClaim serial s).haltRegistered = s.haltRegistered := rfl
@[simp] theorem revokeClaim_qualifying (serial : Nat) : (revokeClaim serial s).qualifying = s.qualifying := rfl
@[simp] theorem revokeClaim_lanes (serial : Nat) : (revokeClaim serial s).lanes = s.lanes := rfl
@[simp] theorem revokeClaim_staleLimit (serial : Nat) : (revokeClaim serial s).staleLimit = s.staleLimit := rfl
@[simp] theorem revokeClaim_divider (serial : Nat) : (revokeClaim serial s).divider = s.divider := rfl
@[simp] theorem revokeClaim_secondInMinute (serial : Nat) : (revokeClaim serial s).secondInMinute = s.secondInMinute := rfl
@[simp] theorem revokeClaim_intervalTaken (serial : Nat) : (revokeClaim serial s).intervalTaken = s.intervalTaken := rfl
@[simp] theorem revokeClaim_plantMinute (serial : Nat) : (revokeClaim serial s).plantMinute = s.plantMinute := rfl
@[simp] theorem revokeClaim_timeValid (serial : Nat) : (revokeClaim serial s).timeValid = s.timeValid := rfl
@[simp] theorem revokeClaim_queue (serial : Nat) : (revokeClaim serial s).queue = s.queue := rfl
@[simp] theorem revokeClaim_claimTimeout (serial : Nat) : (revokeClaim serial s).claimTimeout = s.claimTimeout := rfl
@[simp] theorem revokeClaim_releaseLog (serial : Nat) : (revokeClaim serial s).releaseLog = s.releaseLog := rfl
@[simp] theorem revokeClaim_masks (serial : Nat) : (revokeClaim serial s).masks = s.masks := rfl
@[simp] theorem revokeClaim_link (serial : Nat) : (revokeClaim serial s).link = s.link := rfl
@[simp] theorem revokeClaim_transmitErrors (serial : Nat) : (revokeClaim serial s).transmitErrors = s.transmitErrors := rfl
@[simp] theorem revokeClaim_receiveErrors (serial : Nat) : (revokeClaim serial s).receiveErrors = s.receiveErrors := rfl
@[simp] theorem revokeClaim_inboxes (serial : Nat) : (revokeClaim serial s).inboxes = s.inboxes := rfl
@[simp] theorem revokeClaim_lostMarks (serial : Nat) : (revokeClaim serial s).lostMarks = s.lostMarks := rfl
@[simp] theorem revokeClaim_answers (serial : Nat) : (revokeClaim serial s).answers = s.answers := rfl
@[simp] theorem revokeClaim_transmitter (serial : Nat) : (revokeClaim serial s).transmitter = s.transmitter := rfl
@[simp] theorem revokeClaim_strapPins (serial : Nat) : (revokeClaim serial s).strapPins = s.strapPins := rfl
@[simp] theorem revokeClaim_straps (serial : Nat) : (revokeClaim serial s).straps = s.straps := rfl
@[simp] theorem revokeClaim_phase (serial : Nat) : (revokeClaim serial s).phase = s.phase := rfl
@[simp] theorem revokeClaim_startCause (serial : Nat) : (revokeClaim serial s).startCause = s.startCause := rfl
@[simp] theorem revokeClaim_decidedCause (serial : Nat) : (revokeClaim serial s).decidedCause = s.decidedCause := rfl
@[simp] theorem revokeClaim_selfTestPassed (serial : Nat) : (revokeClaim serial s).selfTestPassed = s.selfTestPassed := rfl
@[simp] theorem revokeClaim_retentionLost (serial : Nat) : (revokeClaim serial s).retentionLost = s.retentionLost := rfl
@[simp] theorem revokeClaim_ready (serial : Nat) : (revokeClaim serial s).ready = s.ready := rfl
@[simp] theorem revokeClaim_pending (serial : Nat) : (revokeClaim serial s).pending = s.pending := rfl

/-! ### `voidDose` -/

@[simp] theorem voidDose_nextSerial (n : Line) (serial : Nat) : (voidDose n serial s).nextSerial = s.nextSerial := rfl
@[simp] theorem voidDose_recipes (n : Line) (serial : Nat) : (voidDose n serial s).recipes = s.recipes := rfl
@[simp] theorem voidDose_limits (n : Line) (serial : Nat) : (voidDose n serial s).limits = s.limits := rfl
@[simp] theorem voidDose_phRaw (n : Line) (serial : Nat) : (voidDose n serial s).phRaw = s.phRaw := rfl
@[simp] theorem voidDose_haltRegistered (n : Line) (serial : Nat) : (voidDose n serial s).haltRegistered = s.haltRegistered := rfl
@[simp] theorem voidDose_qualifying (n : Line) (serial : Nat) : (voidDose n serial s).qualifying = s.qualifying := rfl
@[simp] theorem voidDose_lanes (n : Line) (serial : Nat) : (voidDose n serial s).lanes = s.lanes := rfl
@[simp] theorem voidDose_staleLimit (n : Line) (serial : Nat) : (voidDose n serial s).staleLimit = s.staleLimit := rfl
@[simp] theorem voidDose_divider (n : Line) (serial : Nat) : (voidDose n serial s).divider = s.divider := rfl
@[simp] theorem voidDose_secondInMinute (n : Line) (serial : Nat) : (voidDose n serial s).secondInMinute = s.secondInMinute := rfl
@[simp] theorem voidDose_intervalTaken (n : Line) (serial : Nat) : (voidDose n serial s).intervalTaken = s.intervalTaken := rfl
@[simp] theorem voidDose_plantMinute (n : Line) (serial : Nat) : (voidDose n serial s).plantMinute = s.plantMinute := rfl
@[simp] theorem voidDose_timeValid (n : Line) (serial : Nat) : (voidDose n serial s).timeValid = s.timeValid := rfl
@[simp] theorem voidDose_queue (n : Line) (serial : Nat) : (voidDose n serial s).queue = s.queue := rfl
@[simp] theorem voidDose_claims (n : Line) (serial : Nat) : (voidDose n serial s).claims = s.claims := rfl
@[simp] theorem voidDose_claimTimeout (n : Line) (serial : Nat) : (voidDose n serial s).claimTimeout = s.claimTimeout := rfl
@[simp] theorem voidDose_releaseLog (n : Line) (serial : Nat) : (voidDose n serial s).releaseLog = s.releaseLog := rfl
@[simp] theorem voidDose_masks (n : Line) (serial : Nat) : (voidDose n serial s).masks = s.masks := rfl
@[simp] theorem voidDose_link (n : Line) (serial : Nat) : (voidDose n serial s).link = s.link := rfl
@[simp] theorem voidDose_transmitErrors (n : Line) (serial : Nat) : (voidDose n serial s).transmitErrors = s.transmitErrors := rfl
@[simp] theorem voidDose_receiveErrors (n : Line) (serial : Nat) : (voidDose n serial s).receiveErrors = s.receiveErrors := rfl
@[simp] theorem voidDose_inboxes (n : Line) (serial : Nat) : (voidDose n serial s).inboxes = s.inboxes := rfl
@[simp] theorem voidDose_lostMarks (n : Line) (serial : Nat) : (voidDose n serial s).lostMarks = s.lostMarks := rfl
@[simp] theorem voidDose_answers (n : Line) (serial : Nat) : (voidDose n serial s).answers = s.answers := rfl
@[simp] theorem voidDose_transmitter (n : Line) (serial : Nat) : (voidDose n serial s).transmitter = s.transmitter := rfl
@[simp] theorem voidDose_strapPins (n : Line) (serial : Nat) : (voidDose n serial s).strapPins = s.strapPins := rfl
@[simp] theorem voidDose_straps (n : Line) (serial : Nat) : (voidDose n serial s).straps = s.straps := rfl
@[simp] theorem voidDose_phase (n : Line) (serial : Nat) : (voidDose n serial s).phase = s.phase := rfl
@[simp] theorem voidDose_startCause (n : Line) (serial : Nat) : (voidDose n serial s).startCause = s.startCause := rfl
@[simp] theorem voidDose_decidedCause (n : Line) (serial : Nat) : (voidDose n serial s).decidedCause = s.decidedCause := rfl
@[simp] theorem voidDose_selfTestPassed (n : Line) (serial : Nat) : (voidDose n serial s).selfTestPassed = s.selfTestPassed := rfl
@[simp] theorem voidDose_retentionLost (n : Line) (serial : Nat) : (voidDose n serial s).retentionLost = s.retentionLost := rfl
@[simp] theorem voidDose_ready (n : Line) (serial : Nat) : (voidDose n serial s).ready = s.ready := rfl
@[simp] theorem voidDose_pending (n : Line) (serial : Nat) : (voidDose n serial s).pending = s.pending := rfl

end Sys2Proof.Machine
end

