-- ==== Sys2Proof/Laws/Ops.lean ====
section
/-! SUPPORT. What each shared operation of Machine/Ops.lean does to the fields it changes, in a form that later proofs cite instead of
unfolding the operation. What it leaves unchanged stands in Laws/State.lean. -/

namespace Sys2Proof.Machine

open Sys2Proof

variable (s : State)

/-! ### Sets of kinds -/

@[simp] theorem KindSet.has_insert (ks : KindSet) (k j : AttnKind) : (ks.insert k).has j = (ks.has j || decide (j = k)) := by
  cases k <;> cases j <;> simp [KindSet.insert, KindSet.has, kindBit, AttnKind.number]

@[simp] theorem KindSet.has_erase (ks : KindSet) (k j : AttnKind) : (ks.erase k).has j = (ks.has j && !decide (j = k)) := by
  cases k <;> cases j <;> simp [KindSet.erase, KindSet.has, kindBit, AttnKind.number]

@[simp] theorem KindSet.has_empty (k : AttnKind) : KindSet.has 0 k = false := by
  simp [KindSet.has]

@[simp] theorem KindSet.has_and (a b : KindSet) (k : AttnKind) : KindSet.has (a &&& b) k = (a.has k && b.has k) := by
  simp [KindSet.has]

theorem KindSet.has_not (a : KindSet) (k : AttnKind) : KindSet.has (~~~a) k = !a.has k := by
  cases k <;> simp [KindSet.has, AttnKind.number]

/-- Two sets with the same kinds are one. -/
theorem KindSet.ext_has {a b : KindSet} (h : ∀ k : AttnKind, a.has k = b.has k) : a = b := by
  apply BitVec.eq_of_getLsbD_eq
  intro i hi
  have kind : ∃ k : AttnKind, k.number = i := by
    have all : ∀ j : Fin 13, ∃ k ∈ allKinds, k.number = j.val := by decide
    obtain ⟨k, -, hk⟩ := all ⟨i, hi⟩
    exact ⟨k, hk⟩
  obtain ⟨k, rfl⟩ := kind
  exact h k

/-! ### Slots -/

theorem answerSlot_injective {a b : Station} (h : answerSlot a = answerSlot b) : a = b := by
  simp only [answerSlot, Fin.mk.injEq] at h
  exact Fin.ext h

theorem noticeSlot_injective {a b : Station} (h : noticeSlot a = noticeSlot b) : a = b := by
  simp only [noticeSlot, Fin.mk.injEq] at h
  apply Fin.ext
  omega

theorem answerSlot_ne_noticeSlot (a b : Station) : answerSlot a ≠ noticeSlot b := by
  intro h
  simp only [answerSlot, noticeSlot, Fin.mk.injEq] at h
  omega

@[simp] theorem noticeStation?_noticeSlot (st : Station) : noticeStation? (noticeSlot st) = some st := by
  decide +revert

@[simp] theorem noticeStation?_answerSlot (st : Station) : noticeStation? (answerSlot st) = none := by
  decide +revert

/-! ### Attention -/

theorem raiseFor_pendingKinds_get (who : Station → Bool) (k : AttnKind) (st : Station) :
    (raiseFor who k s).pendingKinds[st] = if who st then s.pendingKinds[st].insert k else s.pendingKinds[st] := by
  simp [raiseFor]

theorem raise_pendingKinds_get (receiver st : Station) (k : AttnKind) :
    (raise receiver k s).pendingKinds[st] = if st = receiver then s.pendingKinds[st].insert k else s.pendingKinds[st] := by
  simp [raise, raiseFor]

theorem dropKind_pendingKinds_get (k : AttnKind) (st : Station) :
    (dropKind k s).pendingKinds[st] = if receives st k then s.pendingKinds[st].erase k else s.pendingKinds[st] := by
  simp [dropKind]

/-- A raise marks no answer slot. -/
theorem raiseFor_slots_answerSlot (who : Station → Bool) (k : AttnKind) (st : Station) :
    (raiseFor who k s).slots[answerSlot st] = s.slots[answerSlot st] := by
  have h := noticeStation?_answerSlot st
  simp only [raiseFor, Fin.getElem_fin, Vector.getElem_ofFn] at h ⊢
  simp [h]

/-! ### Lines and permits -/

theorem setLine_lines_get (n m : Line) (r : LineRecord) : (setLine n r s).lines[m] = if m = n then r else s.lines[m] := by
  simp only [setLine, Fin.getElem_fin, Vector.getElem_set, Fin.ext_iff, eq_comm]

theorem setLine_permits_get (n m : Line) (r : LineRecord) :
    (setLine n r s).permits[m] = if m = n then permitLevel r s.haltRegistered s.ready else s.permits[m] := by
  simp only [setLine, Fin.getElem_fin, Vector.getElem_set, Fin.ext_iff, eq_comm]

theorem registerHalt_permits_get (level : Bool) (m : Line) :
    (registerHalt level s).permits[m] = permitLevel s.lines[m] level s.ready := by
  simp [registerHalt]

/-! ### Lots -/

theorem mem_of_lot? {serial : Nat} {l : Lot} (h : s.lot? serial = some l) : l ∈ s.lots ∧ l.serial = serial := by
  refine ⟨List.mem_of_find?_eq_some h, ?_⟩
  simpa using List.find?_some h

theorem lot?_eq_none {serial : Nat} : s.lot? serial = none ↔ ∀ l ∈ s.lots, l.serial ≠ serial := by
  simp [State.lot?]

/-- A change in place shows in the changed lot and in no other. -/
theorem changeLot_lot? {f : Lot → Lot} (keeps : ∀ l, (f l).serial = l.serial) (changed serial : Nat) :
    (changeLot changed f s).lot? serial = (s.lot? serial).map fun l => if serial = changed then f l else l := by
  simp only [changeLot, State.lot?]
  induction s.lots with
  | nil => rfl
  | cons l rest ih =>
    have head : (if l.serial = changed then f l else l).serial = l.serial := by split <;> simp [keeps]
    by_cases at_head : l.serial = serial
    · subst at_head
      simp only [List.map_cons, List.find?_cons, head, decide_true, Option.map_some]
    · simp only [List.map_cons, List.find?_cons, head, at_head, decide_false, ih]

theorem freeLot_mem (serial : Nat) (l : Lot) : l ∈ (freeLot serial s).lots ↔ l ∈ s.lots ∧ l.serial ≠ serial := by
  simp [freeLot]

theorem createLot_mem (new l : Lot) : l ∈ (createLot new s).lots ↔ l ∈ s.lots ∨ l = new := by
  simp [createLot]

/-! ### Lanes -/

theorem setLane_lanes_get (b c : Bay) (lane : Lane) : (setLane b lane s).lanes[c] = if c = b then lane else s.lanes[c] := by
  simp only [setLane, Fin.getElem_fin, Vector.getElem_set, Fin.ext_iff, eq_comm]

theorem placeLot_lanes_get (b c : Bay) (serial : Nat) :
    (placeLot b serial s).lanes[c] = if c = b then s.lanes[b].withBack serial else s.lanes[c] := by
  simp only [placeLot, Fin.getElem_fin, Vector.getElem_set, Fin.ext_iff, eq_comm]

theorem removeFront_lanes_get (b c : Bay) :
    (removeFront b s).lanes[c] = if c = b then { s.lanes[b] with lots := s.lanes[b].lots.tail } else s.lanes[c] := by
  simp only [removeFront, Fin.getElem_fin, Vector.getElem_set, Fin.ext_iff, eq_comm]

/-! ### The dispatch queue -/

theorem mem_joinTail (serial other : Nat) : other ∈ (joinTail serial s).queue ↔ other ∈ s.queue ∨ other = serial := by
  simp only [joinTail]
  split
  · next member => constructor
                   · exact .inl
                   · rintro (h | rfl)
                     · exact h
                     · exact member
  · simp

theorem mem_leaveQueue (serial other : Nat) : other ∈ (leaveQueue serial s).queue ↔ other ∈ s.queue ∧ other ≠ serial := by
  simp [leaveQueue]

theorem leaveQueue_of_not_mem {serial : Nat} (h : serial ∉ s.queue) : (leaveQueue serial s).queue = s.queue := by
  apply List.filter_eq_self.2
  intro other mem
  simp only [ne_eq, decide_eq_true_eq]
  rintro rfl
  exact h mem

theorem joinTail_nodup {serial : Nat} (h : s.queue.Nodup) : (joinTail serial s).queue.Nodup := by
  simp only [joinTail]
  split
  · exact h
  · next absent => simp only [List.nodup_append, h, true_and, List.nodup_singleton, List.mem_singleton]
                   rintro a mem _ rfl rfl
                   exact absent mem

theorem leaveQueue_nodup {serial : Nat} (h : s.queue.Nodup) : (leaveQueue serial s).queue.Nodup := h.filter _

/-- The hand-over changes the queue as the join of the lane's front does. -/
theorem handOver_queue_eq (b : Bay) : (handOver b s).queue = (joinFront b s).queue := by
  simp [handOver]

/-! ### Claims and the log -/

theorem mem_removeClaim (serial : Nat) (c : Claim) : c ∈ (removeClaim serial s).claims ↔ c ∈ s.claims ∧ c.serial ≠ serial := by
  simp [removeClaim]

/-- A returned claim in one record update: its record gone, its lot CURED and at the queue's head. -/
theorem returnClaim_eq (serial : Nat) : returnClaim serial s = { s with
    claims := s.claims.filter (·.serial ≠ serial)
    lots := s.lots.map fun l => if l.serial = serial then { l with state := .cured } else l
    queue := serial :: s.queue } := rfl

/-- A voided dose in one record update, before its DOSE_VOID. -/
theorem voidDose_eq (n : Line) (serial : Nat) : voidDose n serial s = raise (mixerStation n) .doseVoid { s with
    lots := s.lots.map fun l => if l.serial = serial then { l with state := .void } else l
    lines := s.lines.set n (.void serial)
    permits := s.permits.set n false } := rfl

/-- An append to a log within its limit. -/
theorem appendRecord_eq {log : List ReleaseRecord} (h : log.length ≤ 32) (r : ReleaseRecord) :
    appendRecord log r = (if log.length < 32 then log else log.tail) ++ [r] := by
  simp only [appendRecord, Config.logRecords]
  split
  · have : log.length + 1 - 32 = 0 := by omega
    simp [this]
  · have full : log.length + 1 - 32 = 1 := by omega
    cases log with
    | nil => simp at full
    | cons head tail =>
      rw [full]
      rfl

theorem appendRecord_length {log : List ReleaseRecord} (h : log.length ≤ 32) (r : ReleaseRecord) :
    (appendRecord log r).length = min 32 (log.length + 1) := by
  simp only [appendRecord, Config.logRecords, List.length_drop, List.length_append, List.length_singleton]
  omega

end Sys2Proof.Machine
end

