-- ==== Sys2Proof/Tests/Slice0.lean ====
section
/-! SUPPORT. Our own tests. First the smoke tests of WellFormed and of the frame bytes, then the spec's worked examples, each of one command or
event, with the values of the spec's tables, and at the end, for every obligation with hypotheses, a state and operands that meet
them (`test_witness_…`). -/

namespace Sys2Proof.Tests

open Sys2Proof Sys2Proof.Machine

/-! ## Helpers -/

/-- The state after a command. -/
def after (c : Instr) (s : State) : State := match exec c s with
  | .next t => t
  | .fault _ | .refused _ => s

/-- The status and the results of the answer that stands for a station after a command. -/
def replied (st : Station) (c : Instr) (s : State) : Option (Status × Results) :=
  (after c s).answers[st].map fun a => (a.status, a.results)

/-! ## WellFormed: an ill-formed term for each check -/

theorem test_wellFormed_refuses_long_args : (Instr.qlot 0 [0, 0, 1, 0, 0, 0, 0, 0]).wellFormed = false := by decide
theorem test_wellFormed_refuses_long_parameter_args : (Instr.staleLimit 6 [0, 0, 5, 0, 0, 0, 0]).wellFormed = false := by decide
theorem test_wellFormed_refuses_long_frame : (Instr.commandFrameArrival 0 [0x13, 0, 0, 0, 0, 0, 0, 0, 0]).wellFormed = false := by decide
theorem test_wellFormed_refuses_known_code : (Instr.unknownCommand 0 [0x13]).wellFormed = false := by decide
theorem test_wellFormed_refuses_wide_ident :
    (Instr.ignoredFrame ⟨false, false, false, 2048, []⟩).wellFormed = false := by decide
theorem test_wellFormed_refuses_remote_data :
    (Instr.ignoredFrame ⟨false, true, false, 0x130, [1]⟩).wellFormed = false := by decide
theorem test_wellFormed_accepts :
    (Instr.dosq 0 [0x09, 0x60, 0x00, 0xB4, 1, 2]).wellFormed = true ∧ (Instr.unknownCommand 0 []).wellFormed = true := by decide

/-! ## Words and bytes -/

/-- No row of the table has bits, so no word spells a command and nothing is put in front of the queue. -/
theorem test_no_word_spells_a_command (nbits w : Nat) : decodeTableWord nbits w = none ∧
    State.reset.withFetchWord nbits w = State.reset := ⟨rfl, rfl⟩

/-- Table 9–4 lists each command's code once, and WellFormed knows the same codes. -/
theorem test_codes_of_commands : allCommands.map (·.byte) = commandBytes ∧ commandBytes.Nodup := by decide

/-- DOSQ of 2,400 kg at 180 ‰, class 1, source 2 (Tables 9–4, 3–6), and a frame one byte short. -/
theorem test_dosq_argument_bytes : doseRequest? [0x09, 0x60, 0x00, 0xB4, 0x01, 0x02] = some ⟨2400, 180, 1, 2⟩
    ∧ doseRequest? [0x09, 0x60, 0x00, 0xB4, 0x01] = none := by decide

/-- TMPR of −15.0 °C in bay 3 and 12.5 °C in bay 11: 0xFF6A and 0x007D (R143). -/
theorem test_tmpr_argument_bytes : firstReading? [0x03, 0xFF, 0x6A, 0x0B, 0x00, 0x7D] = some (3, -150)
    ∧ secondReading? [0x03, 0xFF, 0x6A, 0x0B, 0x00, 0x7D] = some (11, 125) := by decide

/-- The answer OK to the DOSQ of case A with the LOST mark (R145): masses 591, 464 and 40. -/
theorem test_dosq_answer_bytes : Answer.bytes ⟨0x10, .ok, true, .dose 591 464 40⟩
    = [0x10, 0x80, 0x02, 0x4F, 0x01, 0xD0, 0x00, 0x28] := by decide

/-- CLNX's answer: bay 13 in the four upper bits over a margin of 37,200 (R145), and the margin at its limit. -/
theorem test_clnx_answer_bytes : Answer.bytes ⟨0x30, .ok, false, .claimed 9001 13 37200⟩
      = [0x30, 0x00, 0x00, 0x23, 0x29, 0xD0, 0x91, 0x50]
    ∧ (Results.claimed 9001 13 2000000).fields = [0x00, 0x23, 0x29, 0xDF, 0xFF, 0xFF] := by decide

/-- LANE 4 of a locked lane without a reading, empty (Table 9–8): no temperature is 0x8000, no serial is 0. -/
theorem test_lane_frame_bytes : (TxFrame.lane 4 true true 6 0 none none).bytes = [3, 6, 0, 0x80, 0, 0, 0, 0]
    ∧ (TxFrame.lane 4 true true 6 0 none none).ident (identBase ⟨false, true, false, false⟩) = 0x236 := by decide

/-! ## States of the worked examples -/

/-- The recipe of case A (3.4.1). -/
def ordinary : Recipe := { Recipe.coldStart with enabled := true, additiveRatio := 20 }

/-- The recipe of cases B and C (3.4.2). -/
def richer : Recipe := { ordinary with wetAllowance := 120, wetPenalty := 150, target := 1200 }

/-- A part ready to dose under one recipe. -/
def dosing (r : Recipe) : State := { State.reset with recipes := State.reset.recipes.set 0 r }

/-- A lot of case A. -/
def lot (serial : Nat) (state : LotState) (line : Line) (place : Option Place) : Lot where
  serial := serial
  state := state
  line := line
  source := 2
  chlorideClass := 1
  recipe := 0
  effectiveTarget := 600000
  datum := -100
  cap := 600
  minAge := 4320
  maxAge := 20160
  hotLimit := 240
  wetAsh := 2400
  dryAsh := 1968
  cement := 591
  water := 464
  additive := 40
  wet := false
  extended := false
  interrupted := false
  hotHeld := false
  hold := none
  place := place
  age := 0
  maturity := 0
  hotMinutes := 0
  outages := 0
  extensions := 0

/-- A lot of case A that has met its criteria (Table 12–2). -/
def ripe (serial : Nat) (state : LotState) (bay : Bay) (position : Nat) : Lot :=
  { lot serial state 0 (some ⟨bay, position, 2000000⟩) with age := 5310, maturity := 637200 }

/-- A lane of capacity 4 with its lots, its reading none. -/
def lane (lots : List Nat) : Lane := { Lane.coldStart with lots := lots }

/-- The release record of Table 12–2. -/
def record : ReleaseRecord where
  serial := 9001
  recipe := 0
  line := 0
  source := 2
  bay := 13
  pourMinute := 2000000
  dispatchMinute := 2005310
  finalMaturity := 637200
  effectiveTarget := 600000
  finalAge := 5310
  hotMinutes := 0
  outages := 0
  extensions := 0
  wet := false
  extended := false
  interrupted := false
  hotHeld := false
  dryAsh := 1968
  cement := 591
  water := 464
  additive := 40
  wetAsh := 2400
  truck := 58
  netMass := 3480

/-- The lots of Table 12–6, in the hall before the warm start. -/
def hallLots : List Lot :=
  [lot 7760 .dosed 0 none, lot 7755 .void 1 none, ripe 7690 .claimed 3 0, ripe 7712 .claimed 8 0, ripe 7701 .cured 0 0,
    ripe 7740 .cured 6 0, ripe 7744 .cured 6 1,
    { lot 7730 .curing 2 (some ⟨9, 0, 2000000⟩) with hold := some .supervisor },
    { lot 7702 .overdue 3 (some ⟨5, 0, 1000000⟩) with age := 20160 }, lot 7680 .rejected 2 (some ⟨11, 0, 1000000⟩)]

/-- The hall of Table 12–6: lots in every state, line 0 and the first claim at their last second, the next second event an interval
event, which the queue holds. The part's frames are sent and its notices read. -/
def hall : State :=
  { State.reset with
    lots := hallLots
    nextSerial := 7761
    recipes := State.reset.recipes.set 0 ordinary
    lines := #v[.dosed 7760 1 600, .void 7755, .idle, .idle]
    permits := #v[true, false, false, false]
    lanes := #v[lane [7701], lane [], lane [], lane [7690], lane [], lane [7702], lane [7740, 7744], lane [], lane [7712], lane [7730],
      lane [], lane [7680], lane [], lane [], lane [], lane []]
    secondInMinute := 59
    plantMinute := 2010000
    queue := [7701, 7740]
    claims := [⟨7690, 12, 1⟩, ⟨7712, 30, 500⟩]
    releaseLog := [record]
    pendingKinds := #v[0x0000, 0x0000, 0x0000, 0x0000, 0x0080, 0x0010, 0x1A80]
    slots := Vector.replicate 32 .empty
    pending := [.secondEvent] }

/-- The bay of Table 5–3 at the start: capacity 4, unlocked. -/
def bay5 : State :=
  { State.reset with
    lots := [ripe 7301 .claimed 5 0, lot 7305 .rejected 0 (some ⟨5, 1, 0⟩), ripe 7309 .cured 5 2, lot 7314 .curing 1 (some ⟨5, 3, 0⟩)]
    lanes := State.reset.lanes.set 5 (lane [7301, 7305, 7309, 7314])
    claims := [⟨7301, 212, 900⟩] }

/-- The queue and the claims of a state, as trucks with their lots. -/
def yard (s : State) : List Nat × List (Nat × Nat) := (s.queue, s.claims.map fun c => (c.truck, c.serial))

/-- The yard of Table 7–5 at the start. -/
def morning : State :=
  { State.reset with
    lots := [ripe 4455 .cured 2 0, ripe 4460 .cured 2 1, ripe 4481 .cured 9 0, ripe 4502 .cured 14 0]
    lanes := ((State.reset.lanes.set 2 (lane [4455, 4460])).set 9 (lane [4481])).set 14 (lane [4502])
    queue := [4455, 4481, 4502] }

/-- Bay 10 of Table 8–4 at the start. -/
def bay10 : State :=
  { State.reset with
    lots := [ripe 8190 .cured 3 0, ripe 8201 .claimed 10 0, { ripe 8204 .cured 10 1 with hold := some .supervisor },
      lot 8207 .curing 0 (some ⟨10, 2, 0⟩)]
    lanes := (State.reset.lanes.set 3 (lane [8190])).set 10 (lane [8201, 8204, 8207])
    queue := [8190]
    claims := [⟨8201, 77, 900⟩] }

/-- A lane with a reading of age 0. -/
def warmLane (t : Int) (lots : List Nat) : Lane := { lane lots with reading := some ⟨t, 0⟩ }

/-- The hall of Table 6–3 before the interval event. -/
def beforeInterval : State :=
  { State.reset with
    lots := [{ lot 4455 .curing 0 (some ⟨2, 0, 0⟩) with maturity := 599900, age := 4500 }, lot 4430 .curing 0 (some ⟨4, 0, 0⟩),
      { lot 4470 .curing 0 (some ⟨4, 1, 0⟩) with maturity := 599900, age := 4500 }, { ripe 4410 .cured 6 0 with hotMinutes := 239 },
      { lot 4481 .overdue 0 (some ⟨9, 0, 0⟩) with maturity := 829300, effectiveTarget := 829440, age := 20200 },
      { lot 4520 .curing 0 (some ⟨12, 0, 0⟩) with age := 20159 }, ripe 4502 .cured 14 0]
    lanes := #v[lane [], lane [], warmLane 125 [4455], lane [], warmLane 125 [4430, 4470], lane [], warmLane 610 [4410], lane [], lane [],
      warmLane 80 [4481], lane [], lane [], lane [4520], lane [], warmLane 125 [4502], lane []]
    queue := [4410, 4502]
    secondInMinute := 59 }

/-! ## The worked examples -/

/-- Table 1–4: the serials across the wrap. -/
theorem test_serials_across_the_wrap :
    freeSerial [16777214, 1, 2] 3 16777214 = 16777215 ∧ nextAfter 16777215 = 1 ∧ freeSerial [16777214, 1, 2, 16777215] 4 1 = 3
      ∧ freeSerial [16777214, 1, 16777215, 3] 4 4 = 4 := by decide

/-- The recipe table of Table 2–7. -/
def overlapping : Vector Recipe 8 :=
  #v[{ ordinary with sources := 0b0011, classHi := 3, moistHi := 250 }, { ordinary with moistHi := 350 }, Recipe.coldStart,
    { ordinary with sources := 0b0100, classLo := 4, moistLo := 200 }, Recipe.coldStart, Recipe.coldStart, Recipe.coldStart,
    Recipe.coldStart]

/-- Table 2–8: the five selections. -/
theorem test_selections : selectRecipe overlapping 0 2 180 = some 0 ∧ selectRecipe overlapping 1 1 250 = some 0
    ∧ selectRecipe overlapping 0 5 180 = some 1 ∧ selectRecipe overlapping 2 6 400 = some 3
    ∧ selectRecipe overlapping 3 6 400 = none := by decide

/-- Table 2–10: the failed enables, condition 3 before condition 4, and the good one. -/
theorem test_enable_failure :
    replied 6 (.rcpe 6 [5]) { State.reset with recipes := State.reset.recipes.set 5 { Recipe.coldStart with maxAge := 3000, pourWarning := 3000 } }
      = some (.badRecipe, .recipeEnable 5 false 3)
    ∧ replied 6 (.rcpe 6 [5])
        { State.reset with recipes := State.reset.recipes.set 5 { Recipe.coldStart with minAge := 2880, maxAge := 3000, pourWarning := 3000 } }
      = some (.badRecipe, .recipeEnable 5 false 4)
    ∧ replied 6 (.rcpe 6 [5])
        { State.reset with recipes := State.reset.recipes.set 5 { Recipe.coldStart with minAge := 2880, maxAge := 3000, pourWarning := 300 } }
      = some (.ok, .recipeEnable 5 true 0) := by decide

/-- Table 2–9: RCPW of an enabled recipe's CEMENT_RATIO is refused, of a disabled one's written. -/
theorem test_rcpw : replied 6 (.rcpw 6 [0, 5, 0x01, 0x40]) (dosing ordinary) = some (.recipeEnabled, .none)
    ∧ (after (.rcpw 6 [1, 5, 0x01, 0x40]) (dosing ordinary)).recipes[1].cementRatio = 320 := by decide

theorem test_rcpd_rcpr : (after (.rcpd 6 [0]) (dosing ordinary)).recipes[0].enabled = false
    ∧ replied 6 (.rcpr 6 [0, 11]) (dosing ordinary) = some (.ok, .recipeRead 0 11 (-100) true) := by decide

/-- Case A (Table 3–6): OK, and a lot DOSED with effective target 600,000. -/
theorem test_case_A : replied 0 (.dosq 0 (u16 2400 ++ u16 180 ++ [1, 2])) (dosing ordinary) = some (.ok, .dose 591 464 40)
    ∧ ((after (.dosq 0 (u16 2400 ++ u16 180 ++ [1, 2])) (dosing ordinary)).lots.map fun l => (l.state, l.dryAsh, l.wet, l.effectiveTarget))
      = [(.dosed, 1968, false, 600000)] := by decide

/-- Case B (Table 3–7): OK_WET with effective target 828,000; case C (Table 3–8): TOO_WET. -/
theorem test_cases_B_and_C : replied 1 (.dosq 1 (u16 3000 ++ u16 330 ++ [1, 2])) (dosing richer) = some (.okWet, .dose 603 0 41)
    ∧ ((after (.dosq 1 (u16 3000 ++ u16 330 ++ [1, 2])) (dosing richer)).lots.map fun l => (l.wet, l.effectiveTarget)) = [(true, 828000)]
    ∧ replied 1 (.dosq 1 (u16 3000 ++ u16 420 ++ [1, 2])) (dosing richer) = some (.tooWet, .tooWet 468 271) := by decide

/-- Table 3–11: the wet band at 1,000 kg. -/
theorem test_wet_band :
    ((computeDose ordinary 1000 300).excess, (computeDose ordinary 1000 310).water, (computeDose ordinary 1000 320).wet,
      (computeDose ordinary 1000 320).water, (computeDose ordinary 1000 380).tooWet) = (-19, 4, true, 0, true) := by decide

/-- Case D (Tables 3–9 and 3–10): OVER_WATER, and the half batch. -/
theorem test_case_D : replied 2 (.dosq 2 (u16 4000 ++ u16 50 ++ [1, 2])) (dosing ordinary) = some (.overWater, .dose 1140 1529 76)
    ∧ replied 2 (.dosq 2 (u16 2000 ++ u16 50 ++ [1, 2])) (dosing ordinary) = some (.ok, .dose 570 765 38) := by decide

/-- SPAR of line 1's cement limit to 900, answered with parameter 0, index 1 and the value (R48, R49). -/
theorem test_spar : replied 6 (.cementMax 6 [1, 0x03, 0x84]) hall = some (.ok, .parameter 0 1 900)
    ∧ (after (.cementMax 6 [1, 0x03, 0x84]) hall).limits[1].cementMax = 900 := by decide

/-- R49, R77, R78, R120: a value one below the range is refused. -/
theorem test_spar_ranges : replied 6 (.waterMax 6 [0, 0, 49]) hall = some (.badArgument, .none)
    ∧ replied 6 (.additiveMax 6 [0, 0x01, 0x91]) hall = some (.badArgument, .none)
    ∧ replied 6 (.staleLimit 6 [0, 0, 0]) hall = some (.badArgument, .none)
    ∧ replied 6 (.claimTimeout 6 [0, 0, 119]) hall = some (.badArgument, .none)
    ∧ replied 6 (.bayCapacity 6 [3, 0, 6]) hall = some (.bayNotEmpty, .none) := by decide

/-- Table 4–6: a change starts the qualification, its return within 20 ms ends it, and 20 ms held register the halt. -/
theorem test_halt_filtering :
    (after (.phChange true) hall).qualifying = true ∧ (after (.phChange false) (after (.phChange true) hall)).qualifying = false
    ∧ (after .haltAssertionRegistered (after (.phChange true) hall)).permits[0] = false
    ∧ (after .haltReleaseRegistered (after (.phChange false) (after .haltAssertionRegistered (after (.phChange true) hall)))).permits[0]
      = true := by decide

/-- Table 4–7: the second event that leaves 600 seconds raises POUR_LATE for station 0 (kind 2), and the last one DOSE_VOID (kind 3). -/
theorem test_pour_window :
    (after .secondEvent { hall with lines := #v[.dosed 7760 601 600, .void 7755, .idle, .idle] }).pendingKinds[0] = 0x0004
    ∧ (after .secondEvent hall).pendingKinds[0] = 0x0008 ∧ (after .secondEvent hall).lines[0] = .void 7760 := by decide

/-- The same expiry taken by its own row. -/
theorem test_pour_window_expiry : (after (.pourWindowExpiry 0) hall).lines[0] = .void 7760
    ∧ (after (.pourWindowExpiry 1) hall) = hall := by decide

/-- Table 4–7: DSCH to bay 6, whose lane holds 2 of 4, places the lot at position 2. -/
theorem test_dsch : replied 0 (.dsch 0 [6]) hall = some (.ok, .discharged 7760 6 2)
    ∧ (after (.dsch 0 [6]) hall).lanes[6].lots = [7740, 7744, 7760] ∧ (after (.dsch 0 [6]) hall).lines[0] = .idle := by decide

/-- Table 12–3: ABDN of a VOID line answers its lot with the state before; QLIN (R64). -/
theorem test_abdn_qlin : replied 1 (.abdn 1 []) hall = some (.ok, .abandoned 7755 .void)
    ∧ replied 0 (.qlin 0 []) hall = some (.ok, .line .dosed true false (some 7760) 1) := by decide

/-- Table 5–3: the confirmation brings 7,305 to the front, and the clear 7,309, which joins the queue. -/
theorem test_blocked_lane :
    (after (.cnfm 5 (u24 7301 ++ u16 212 ++ u16 18400)) bay5).lanes[5].lots = [7305, 7309, 7314]
    ∧ (after (.cnfm 5 (u24 7301 ++ u16 212 ++ u16 18400)) bay5).anyRejectedAtFront = true
    ∧ (after (.clrb 6 [5]) (after (.cnfm 5 (u24 7301 ++ u16 212 ++ u16 18400)) bay5)).queue = [7309]
    ∧ ((after (.clrb 6 [5]) (after (.cnfm 5 (u24 7301 ++ u16 212 ++ u16 18400)) bay5)).lots.map fun l => l.place.map (·.position))
      = [some 0, some 1] := by decide

/-- LOCK of bay 6 answers its occupancy (R76), and a DSCH to it is refused BAY_LOCKED. -/
theorem test_lock : replied 6 (.lock 6 [6]) hall = some (.ok, .laneLock 6 true 2)
    ∧ replied 0 (.dsch 0 [6]) (after (.lock 6 [6]) hall) = some (.bayLocked, .none)
    ∧ (after (.ulck 6 [6]) { hall with lanes := hall.lanes.set 6 { hall.lanes[6] with locked := true } }).lanes[6].locked = false := by decide

/-- R79 to R81: two readings, the second (90.1 °C) out of range, which raises PROBE_FAULT (kind 8) for the hall. -/
theorem test_tmpr : replied 4 (.tmpr 4 [11, 0, 0x7D, 3, 0x03, 0x85]) hall = some (.ok, .readings 2 false (some true))
    ∧ (after (.tmpr 4 [11, 0, 0x7D, 3, 0x03, 0x85]) hall).lanes[11].reading = some ⟨125, 0⟩
    ∧ (after (.tmpr 4 [11, 0, 0x7D, 3, 0x03, 0x85]) hall).pendingKinds[4].has .probeFault = true := by decide

/-- Table 5–4: a reading of age 9 is handed over, one of age 10 is stale. -/
theorem test_stale :
    (Lane.temperature 10 { lane [] with reading := some ⟨125, 9⟩ }, Lane.temperature 10 { lane [] with reading := some ⟨125, 10⟩ })
      = (some 125, none) := by decide

/-- STIM makes time valid and ends TIME_UNSET (R93). -/
theorem test_stim : (after (.stim 6 [0, 0x1E, 0x84, 0x80]) hall).plantMinute = 2000000
    ∧ (after (.stim 6 [0, 0x1E, 0x84, 0x80]) hall).pendingKinds[6].has .timeUnset = false := by decide

/-- Tables 6–3 and 6–4: the states and the queue after the interval. -/
theorem test_interval :
    ((after .intervalEvent beforeInterval).lots.map fun l => (l.serial, l.state, l.hold))
      = [(4455, .cured, none), (4430, .curing, none), (4470, .cured, none), (4410, .cured, some .hot), (4481, .cured, none),
        (4520, .overdue, none), (4502, .cured, none)]
    ∧ (after .intervalEvent beforeInterval).queue = [4502, 4455, 4481] := by decide

/-- Table 6–3: the credits. -/
theorem test_interval_credits : ((after .secondEvent beforeInterval).lots.map fun l => (l.maturity, l.age, l.hotMinutes))
    = [(600125, 4501, 0), (225, 1, 0), (600125, 4501, 0), (637900, 5311, 240), (829480, 20201, 0), (0, 20160, 0), (637425, 5311, 0)] := by
  decide

/-- Table 7–5, 0 s: CLNX of truck 212 claims 4,455 in bay 2; the margin is 637,200 − 600,000. -/
theorem test_clnx : replied 5 (.clnx 5 [0, 212]) morning = some (.ok, .claimed 4455 2 37200)
    ∧ yard (after (.clnx 5 [0, 212]) morning) = ([4481, 4502], [(212, 4455)]) := by decide

/-- R117 and R116: RTRN puts the lot at the queue's head; CNFM ends the claim and appends a record. -/
theorem test_rtrn_cnfm :
    yard (after (.rtrn 5 (u24 7712)) hall) = ([7712, 7701, 7740], [(12, 7690)])
    ∧ replied 5 (.cnfm 5 (u24 7690 ++ u16 12 ++ u16 3480)) hall = some (.ok, .confirmed 7690 2)
    ∧ yard (after (.cnfm 5 (u24 7712 ++ u16 30 ++ u16 3480)) hall) = ([7701, 7740], [(12, 7690)]) := by decide

/-- R114: the lapsed claim's lot heads the queue; QREL reads the record of Table 12–2. -/
theorem test_expiry_and_qrel : yard (after .claimExpiry hall) = ([7690, 7701, 7740], [(30, 7712)])
    ∧ replied 5 (.qrel 5 [0, 3]) hall = some (.ok, .releaseDose 1968 591 464)
    ∧ replied 6 (.qrel 6 [1, 0, 0]) hall = some (.noRecord, .none) := by decide

/-- Table 8–4: the rejection revokes the claim. -/
theorem test_rjct : replied 6 (.rjct 6 (u24 8201)) bay10 = some (.ok, .rejected 8201 .claimed .rejected)
    ∧ yard (after (.rjct 6 (u24 8201)) bay10) = ([8190], [])
    ∧ (after (.rjct 6 (u24 8201)) bay10).pendingKinds[6].has .rejectedAtFront = true
    ∧ (after (.rjct 6 (u24 8201)) bay10).pendingKinds[5].has .claimRevoked = true := by decide

/-- Table 8–4: UNHD of a held front lot joins it to the tail, HOLD takes a lot out of the queue. -/
theorem test_unhd_hold :
    (after (.unhd 6 (u24 8204)) { bay10 with
      lots := [ripe 8190 .cured 3 0, { ripe 8204 .cured 10 0 with hold := some .supervisor }]
      lanes := (State.reset.lanes.set 3 (lane [8190])).set 10 (lane [8204]) }).queue = [8190, 8204]
    ∧ (after (.hold 6 (u24 8190)) bay10).queue = [] := by decide

/-- Table 8–5: an extension of 1,440 minutes brings the maximum age to 21,600 and the lot back to CURING. -/
theorem test_extd : replied 6 (.extd 6 [0x00, 0x1E, 0x16, 0x05, 0xA0]) hall = some (.ok, .extended 7702 21600 .curing) := by
  decide +kernel

theorem test_extd_ends_overdue :
    (after (.extd 6 [0x00, 0x1E, 0x16, 0x05, 0xA0]) hall).pendingKinds[6].has .overduePresent = false := by decide

/-- QLOT pages 0 and 1 of a claimed lot, page 4 and an unknown serial (Tables 1–6, 1–7). -/
theorem test_qlot : replied 5 (.qlot 5 (u24 7690 ++ [1])) hall = some (.ok, .lotMaturity 637200 600000)
    ∧ replied 5 (.qlot 5 (u24 7690 ++ [4])) hall = some (.badArgument, .none)
    ∧ replied 5 (.qlot 5 (u24 7691 ++ [0])) hall = some (.unknownLot, .none) := by decide

/-- Table 9–11: a second waiting frame replaces the first and marks the inbox LOST. -/
theorem test_inbox : (after (.qrel 5 [0, 2]) (after (.qrel 5 [0, 0]) (after (.rtrn 5 (u24 7690)) hall))).inboxes[5] = some [0x61, 0, 2]
    ∧ (after (.qrel 5 [0, 2]) (after (.qrel 5 [0, 0]) (after (.rtrn 5 (u24 7690)) hall))).lostMarks[5] = true := by decide

/-- Table 9–9: DOSQ from the hall is NOT_PERMITTED, an unknown code UNKNOWN_COMMAND. -/
theorem test_roles : replied 4 (.dosq 4 (u16 2400 ++ u16 180 ++ [1, 2])) hall = some (.notPermitted, .none)
    ∧ replied 2 (.unknownCommand 2 [0x47, 1]) hall = some (.unknownCommand, .none) := by decide

/-- Table 9–14: a remote request for LANE 3 while slot 19 sends marks it again, and the loss of arbitration leaves it pending. -/
theorem test_slots :
    (after (.remoteRequest 5) (after .attemptStart (after (.remoteRequest 5) hall))).slots[19] = .sendingMarked
    ∧ (after .arbitrationLoss (after (.remoteRequest 5) (after .attemptStart (after (.remoteRequest 5) hall)))).slots[19] = .pending
    ∧ (after (.attemptCompletion ⟨1, 0⟩ ⟨false, false, false, false⟩) (after .attemptStart (after (.remoteRequest 5) hall))).slots[19] = .empty := by decide

/-- R142: a data frame at identifier 0x105 with base 0x100 is a command of station 5, a frame received in error is nothing. -/
theorem test_other_frames :
    (after (.ignoredFrame ⟨false, false, false, 0x105, [0x70]⟩) hall).answers[5].isSome = true
    ∧ after (.ignoredFrame ⟨false, false, true, 0x105, [0x70]⟩) hall = hall
    ∧ after (.commandFrameArrival 5 [0x70]) hall = after (.atrd 5 []) hall := by decide

/-- R154: the count past 255 is bus-off, and the recovery clears both counts. -/
theorem test_bus_off : (after (.busError 8 0) { hall with transmitErrors := 248 }).link = .busOff
    ∧ (after (.busError 8 0) { hall with transmitErrors := 247 }).link = .onBus
    ∧ (after .busOffRecovery { hall with transmitErrors := 256, link := .busOff }).transmitErrors = 0 := by decide

/-- Table 10–3: ATCL of CLAIM_EXPIRED, CLAIM_REVOKED and QUEUE_READY leaves QUEUE_READY. -/
theorem test_atcl :
    replied 5 (.atcl 5 [0x00, 0x70]) { hall with pendingKinds := hall.pendingKinds.set 5 0x0070 } = some (.ok, .kinds 0x0010) := by decide

/-- R160, R162: RESTARTED is removed by ATRD and is never masked. -/
theorem test_atrd_atmk : (after (.atrd 0 []) State.reset).pendingKinds[0] = 0
    ∧ replied 6 (.atmk 6 [0x1F, 0xFF]) hall = some (.ok, .kinds 0x1F82) := by decide

/-- A cold start from power-on ends in the state after reset (00_scope, log entry 1). -/
theorem test_cold_start :
    after (.selfTest true) (after (.powerOn ⟨false, false, false, false⟩)
      (after .vbakBelowRetention (after .mainPowerLoss State.reset))) = State.reset := by decide

/-- Table 12–6: the queue after the warm start, and the outage counts. -/
theorem test_warm_start :
    (after (.selfTest true) (beginStart .warm hall)).queue = [7690, 7712, 7701, 7740]
    ∧ ((after (.selfTest true) (beginStart .warm hall)).lots.map fun l => (l.state, l.outages))
      = [(.void, 0), (.void, 0), (.cured, 1), (.cured, 1), (.cured, 1), (.cured, 1), (.cured, 1), (.curing, 1), (.overdue, 1),
        (.rejected, 0)] := by decide

/-- Table 12–7: the first notices after the start. -/
theorem test_warm_start_kinds : (after (.selfTest true) (beginStart .warm hall)).pendingKinds
    = #v[0x0009, 0x0001, 0x0001, 0x0001, 0x0081, 0x0011, 0x1A81] := by decide

/-- R167, R164: a failed self-test is FAULT, where RSTIN registered and released begins a start. -/
theorem test_fault : (after (.selfTest false) (beginStart .warm hall)).phase = .fault
    ∧ (after (.resetRelease ⟨true, false, true, true⟩) (after .resetAssertionRegistered (after (.selfTest false) (beginStart .warm hall)))).phase
      = .starting := by decide

/-- R168: the start of an RSTC begins at the completion of its answer. -/
theorem test_restart :
    (after (.attemptCompletion ⟨0, 0⟩ ⟨false, true, false, false⟩) (after .attemptStart (after (.rstc 6 []) hall))).decidedCause = .supervisorCold
    ∧ (after (.attemptCompletion ⟨0, 0⟩ ⟨false, true, false, false⟩) (after .attemptStart (after (.rstw 6 []) hall))).phase = .starting := by decide

/-- R141: a strap changed in service has no effect until the next start samples it, a supervisor restart as well as another. -/
theorem test_straps_of_a_restart :
    (after (.attemptCompletion ⟨0, 0⟩ ⟨false, true, false, false⟩) (after .attemptStart (after (.atrd 0 []) hall))).straps.sa0 = false
    ∧ identBase (after (.selfTest true) (after (.attemptCompletion ⟨0, 0⟩ ⟨false, true, false, false⟩)
        (after .attemptStart (after (.rstw 6 []) hall)))).straps = 0x200 := by decide

/-! ## The laws in the hall of Table 12–6 -/

theorem hall_permits : PermitLaw hall := by
  have : ∀ n : Line, hall.permits[n] = permitLevel hall.lines[n] hall.haltRegistered hall.ready := by decide
  exact this

theorem hall_recipes : RecipeLaw hall := by
  have fields : ∀ k : RecipeNo, ∀ f ∈ allFields, f.admits (hall.recipes[k].get f) = true := by decide
  have consistent : ∀ k : RecipeNo, hall.recipes[k].enabled = true → hall.recipes[k].failedCondition = 0 := by decide
  exact fun k => ⟨fun f => fields k f (by cases f <;> decide), consistent k⟩

theorem hall_parameters : ParameterLaw hall := by
  constructor <;> decide

theorem hall_time : TimeLaw hall := by
  constructor <;> decide

theorem hall_readings : ReadingLaw hall := by
  have : ∀ b : Bay, hall.lanes[b].reading = none := by decide
  intro b r mem
  rw [this b] at mem
  cases mem

theorem hall_link : LinkLaw hall := by
  constructor <;> decide

theorem hall_phase : PhaseLaw hall := by
  constructor <;> decide

theorem hall_attention : AttentionLaw hall := by
  constructor
  · intro st k
    cases k <;> decide +revert
  · intro st k
    cases k <;> decide +revert

theorem hall_conditions : ConditionLaw hall := by
  intro _ st k
  cases k <;> decide +revert

/-- LotLaw from its clauses in a form that can be decided. -/
theorem lotLaw_of {l : Lot}
    (h : l.place.isSome = l.state.inLane ∧ (l.hold ≠ none → l.state.holdable = true)
      ∧ (l.state.inLane = false → l.age = 0 ∧ l.maturity = 0 ∧ l.hotMinutes = 0 ∧ l.outages = 0 ∧ l.extensions = 0)
      ∧ l.age ≤ Config.maxMinutes ∧ l.maxAge ≤ Config.maxMinutes ∧ l.maturity ≤ Config.maxMaturity ∧ l.hotMinutes ≤ Config.maxMinutes
      ∧ l.outages ≤ Config.maxCount ∧ l.extensions ≤ Config.maxCount ∧ (l.interrupted = true ↔ 1 ≤ l.outages)
      ∧ (l.extended = true ↔ 1 ≤ l.extensions) ∧ (l.state = .cured ∨ l.state = .claimed → l.meetsCriteria = true)
      ∧ (l.wet = true → l.water = 0)) : LotLaw l := by
  obtain ⟨h1, h2, h3, h4, h5, h6, h7, h8, h9, h10, h11, h12, h13⟩ := h
  exact ⟨h1, h2, h3, h4, h5, h6, h7, h8, h9, h10, h11, h12, h13⟩

theorem hall_serials : SerialLaw hall := by
  constructor <;> decide

theorem hall_lines : ∀ n : Line, LineNames hall n hall.lines[n] := by
  intro n
  match n with
  | 0 => exact (show (1 ≤ 1 ∧ 1 ≤ 5400 ∧ 600 ≤ 5399) ∧ ∃ l ∈ hall.lots, l.serial = 7760 ∧ l.state = .dosed ∧ l.line = 0 by decide)
  | 1 => exact (show ∃ l ∈ hall.lots, l.serial = 7755 ∧ l.state = .void ∧ l.line = 1 by decide)
  | 2 => trivial
  | 3 => trivial

theorem hall_lotsOfLines : ∀ l ∈ hall.lots, LotOfLine hall l := by
  have : ∀ l ∈ hall.lots, (l.state = .dosed → hall.lines[l.line] = .dosed l.serial 1 600)
      ∧ (l.state = .void → hall.lines[l.line] = .void l.serial) := by decide
  exact fun l mem => ⟨fun dosed => ⟨1, 600, (this l mem).1 dosed⟩, (this l mem).2⟩

theorem hall_law : HallLaw hall where
  serials := hall_serials
  lots := by
    intro l mem
    apply lotLaw_of
    revert l
    decide
  lines := hall_lines
  lotsOfLines := hall_lotsOfLines
  laneRoom := by decide
  laneDistinct := by decide
  laneLots := by
    have : ∀ (b : Bay), ∀ x ∈ hall.lanes[b].lots.zipIdx, ∃ l ∈ hall.lots,
        l.serial = x.1 ∧ l.place.map (·.bay) = some b ∧ l.place.map (·.position) = some x.2 := by decide
    intro b i serial at_i
    exact this b (serial, i) (List.mem_zipIdx_iff_getElem?.2 at_i)
  lotLanes := by
    have : ∀ l ∈ hall.lots, l.place.all (fun p => hall.lanes[p.bay].lots[p.position]? == some l.serial) = true := by decide
    intro l mem p place
    have here := this l mem
    rw [Option.mem_def] at place
    rw [place] at here
    simpa using here
  queueDistinct := by decide
  queueExact := by
    intro serial
    constructor
    · have : ∀ x ∈ hall.queue, ∃ l ∈ hall.lots, l.serial = x ∧ l.ready = true ∧ l.atFront = true := by decide
      exact this serial
    · have : ∀ l ∈ hall.lots, l.ready = true → l.atFront = true → l.serial ∈ hall.queue := by decide
      rintro ⟨l, mem, rfl, ready, front⟩
      exact this l mem ready front
  claimsAtMost := by decide
  claimTrucks := by decide
  claimSerials := by decide
  claimsRun := by decide
  claimsExact := by decide
  claimsLive := by decide
  claimedFront := by decide
  parameters := hall_parameters
  recipes := hall_recipes

theorem hall_log : LogLaw hall where
  atMost := by decide
  records := by
    intro r mem
    have : r = record := by simpa [hall] using mem
    subst this
    constructor <;> decide

theorem hallLaw_withSecond {s : State} (h : HallLaw s) (n : Nat) : HallLaw { s with secondInMinute := n } where
  serials := ⟨h.serials.atMost, h.serials.distinct, h.serials.inRange, h.serials.counter⟩
  lots := h.lots
  lines := h.lines
  lotsOfLines := h.lotsOfLines
  laneRoom := h.laneRoom
  laneDistinct := h.laneDistinct
  laneLots := h.laneLots
  lotLanes := h.lotLanes
  queueDistinct := h.queueDistinct
  queueExact := h.queueExact
  claimsAtMost := h.claimsAtMost
  claimTrucks := h.claimTrucks
  claimSerials := h.claimSerials
  claimsRun := h.claimsRun
  claimsExact := h.claimsExact
  claimsLive := h.claimsLive
  claimedFront := h.claimedFront
  parameters := ⟨h.parameters.cement, h.parameters.water, h.parameters.additive, h.parameters.staleLimit, h.parameters.capacity,
    h.parameters.claimTimeout, h.parameters.nextSerial⟩
  recipes := h.recipes

/-! ## Witnesses: for each obligation with hypotheses, a state and operands that meet them, clause by clause -/

theorem test_witness_StepTakesTheFrontCommand : State.reset.pending = [] := rfl

theorem test_hall_takes_at_once : ∀ st : Station, TakesAtOnce st hall := by decide

theorem test_dosing_takes_at_once : ∀ st : Station, TakesAtOnce st (dosing ordinary) := by decide

/-- The readers of arguments at the ends of their fields' ranges, and one byte short. -/
theorem test_witness_ArgumentsOfFrames :
    doseRequest? (u16 65535 ++ u16 65535 ++ u8 255 ++ u8 255 ++ [9]) = some ⟨65535, 65535, 255, 255⟩
    ∧ firstReading? (u8 255 ++ s16 (-32768) ++ []) = some (255, -32768)
    ∧ secondReading? (u8 0 ++ s16 0 ++ u8 255 ++ s16 32767 ++ []) = some (255, 32767)
    ∧ confirmation? (u24 16777215 ++ u16 65535 ++ u16 65535 ++ []) = some ⟨16777215, 65535, 65535⟩
    ∧ recipeWrite? (u8 255 ++ u8 255 ++ u16 32768 ++ []) = some (255, 255, 32768, -32768)
    ∧ recipeWrite? (u8 255 ++ u8 255 ++ u16 32767 ++ []) = some (255, 255, 32767, 32767)
    ∧ minute? (u32 4294967295 ++ []) = some 4294967295
    ∧ kindSet? (u16 8191 ++ []) = some (BitVec.ofNat 13 8191) ∧ kindSet? (u16 8192 ++ []) = none
    ∧ recordPage? (u8 0 ++ u8 3) = some (0, 3, 0)
    ∧ ([0, 0, 0, 0, 0] : List Byte).length < 6 ∧ extension? [0, 0, 0, 0] = none ∧ serial? [0, 0] = none := by decide

/-- FramesSent: an answer without results; and Table 9–1, both pairs of straps at each of their four settings. -/
theorem test_witness_FramesSent : (⟨0x45, .badArgument, false, .none⟩ : Answer).results = .none
    ∧ identBase ⟨false, false, true, true⟩ = 0x100 ∧ identBase ⟨false, true, true, false⟩ = 0x200
    ∧ identBase ⟨true, false, false, true⟩ = 0x300 ∧ identBase ⟨true, true, false, false⟩ = 0x400
    ∧ bitRate ⟨true, true, false, false⟩ = 125 ∧ bitRate ⟨true, false, false, true⟩ = 250
    ∧ bitRate ⟨false, true, true, false⟩ = 500 ∧ bitRate ⟨false, false, true, true⟩ = 1000 := by decide

theorem test_witness_FrameArrival :
    dataFits [0x60, 0x00, 0x1E, 0x0A, 0, 0, 0, 0] = true ∧ (after .mainPowerLoss hall).link ≠ .onBus ∧ hall.link = .onBus
    ∧ (after (.qrel 5 [0, 0]) (after (.rtrn 5 (u24 7690)) hall)).inboxes[(5 : Station)] = some [0x61, 0, 0]
    ∧ (after (.qrel 5 [0, 0]) (after (.rtrn 5 (u24 7690)) hall)).link = .onBus
    ∧ (after (.rtrn 5 (u24 7690)) hall).inboxes[(5 : Station)] = none
    ∧ (after (.rtrn 5 (u24 7690)) hall).slots[answerSlot 5] ≠ .empty ∧ (after (.rtrn 5 (u24 7690)) hall).link = .onBus
    ∧ hall.inboxes[(5 : Station)] = none ∧ hall.slots[answerSlot 5] = .empty := by decide

theorem test_witness_RefusalsChangeNothing :
    TakesAtOnce 4 hall ∧ dataFits [0x10] = true ∧ (after (.commandFrameArrival 4 [0x10]) hall).answers[(4 : Station)]
      = some ⟨0x10, .notPermitted, false, .none⟩ ∧ Status.notPermitted ≠ .ok ∧ Status.notPermitted ≠ .okWet := by decide

theorem test_witness_RefusalsChangeNothing_next :
    exec (.commandFrameArrival 4 [0x10]) hall = .next (after (.commandFrameArrival 4 [0x10]) hall) := rfl

theorem test_witness_RolesAndUnknownCodes :
    TakesAtOnce 4 hall ∧ argsFit [1, 2, 3, 4, 5, 6, 7] = true ∧ (0x47 : Byte) ∉ commandBytes
    ∧ ((0x10 : Byte) ∈ commandBytes ∧ (0x10 : Byte) ∉ permittedCodes 4) ∧ (0x20 : Byte) ∈ permittedCodes 4 := by decide

theorem test_witness_QlotReadsOnePage :
    TakesAtOnce 0 hall ∧ argsFit [0, 0, 0] = true ∧ ([0, 0, 0] : List Byte).length < 4
    ∧ (argsFit (u24 7690 ++ [4]) = true ∧ lotPage? (u24 7690 ++ [4]) = some (7690, 4) ∧ 3 < 4)
    ∧ (argsFit (u24 7691 ++ [3]) = true ∧ lotPage? (u24 7691 ++ [3]) = some (7691, 3) ∧ hall.lot? 7691 = none)
    ∧ (∀ page : Fin 4, lotPage? (u24 7690 ++ u8 page.val) = some (7690, page.val)) ∧ hall.lot? 7690 = some (ripe 7690 .claimed 3 0) := by
  decide

theorem test_witness_SerialsNameLots : SerialLaw hall ∧ hall.lots.length < 64 := ⟨hall_serials, by decide⟩

theorem test_witness_RcpwWritesOneField :
    TakesAtOnce supervisorStation hall ∧ (argsFit [0, 5, 1] = true ∧ recipeWrite? [0, 5, 1] = none)
    ∧ (recipeWrite? [8, 17, 0, 0] = some (8, 17, 0, 0) ∧ 7 < 8) ∧ (recipeWrite? [7, 18, 0, 0] = some (7, 18, 0, 0) ∧ 17 < 18)
    ∧ (recipeWrite? [7, 11, 0xFF, 0x37] = some (7, 11, 65335, -201) ∧ allFields[11]? = some .datum ∧ (-201 : Int) < RecipeField.datum.low)
    ∧ (recipeWrite? [7, 5, 0x03, 0x21] = some (7, 5, 801, 801) ∧ allFields[5]? = some .cementRatio ∧ RecipeField.cementRatio.high < 801)
    ∧ (recipeWrite? [0, 5, 0x03, 0x20] = some (0, 5, 800, 800) ∧ RecipeField.cementRatio.low ≤ 800 ∧ 800 ≤ RecipeField.cementRatio.high
      ∧ hall.recipes[(0 : RecipeNo)].enabled = true)
    ∧ (recipeWrite? [7, 11, 0xFF, 0x38] = some (7, 11, 65336, -200) ∧ RecipeField.datum.low ≤ -200 ∧ -200 ≤ RecipeField.datum.high
      ∧ hall.recipes[(7 : RecipeNo)].enabled = false) ∧ argsFit [7, 11, 0xFF, 0x38] = true := by
  refine ⟨?_, ?_, ?_, ?_, ?_, ?_, ?_, ?_, ?_⟩ <;> decide

theorem test_witness_RcpeChecksConsistency :
    TakesAtOnce supervisorStation hall ∧ oneByte? [8] = some 8 ∧ 7 < 8 ∧ (oneByte? [0] = some 0 ∧ hall.recipes[(0 : RecipeNo)].enabled = true)
    ∧ (oneByte? [7] = some 7 ∧ argsFit [7] = true ∧ hall.recipes[(7 : RecipeNo)].enabled = false
      ∧ hall.recipes[(7 : RecipeNo)].conditions.all id = true)
    ∧ TakesAtOnce supervisorStation { hall with recipes := hall.recipes.set 7 { Recipe.coldStart with datum := 100, cap := 100 } }
    ∧ ({ Recipe.coldStart with datum := 100, cap := 100 } : Recipe).conditions.all id = false := by decide

theorem test_witness_RcpdAndRcpr :
    TakesAtOnce supervisorStation hall ∧ argsFit [] = true ∧ oneByte? [] = none ∧ oneByte? [8] = some 8 ∧ oneByte? [7] = some 7
    ∧ twoBytes? [7] = none ∧ twoBytes? [8, 17] = some (8, 17) ∧ twoBytes? [7, 18] = some (7, 18)
    ∧ (twoBytes? [7, 17] = some (7, 17) ∧ allFields[17]? = some .pourWarning) ∧ argsFit [7, 17] = true := by decide

theorem test_witness_DoseArithmetic :
    (100 ≤ 100 ∧ 100 ≤ 8000 ∧ 600 ≤ 600) ∧ (100 ≤ 8000 ∧ 8000 ≤ 8000 ∧ 0 ≤ 600)
    ∧ ∀ f : RecipeField, f.admits (ordinary.get f) = true := by
  refine ⟨by decide, by decide, fun f => ?_⟩
  cases f <;> decide

theorem test_witness_DosqRefusalOrder :
    TakesAtOnce (mixerStation 3) (dosing ordinary) ∧ argsFit (u16 100 ++ u16 600 ++ [7, 3]) = true
    ∧ ([0, 100, 0, 0, 7] : List Byte).length < 6
    ∧ (doseRequest? (u16 99 ++ u16 600 ++ [7, 3]) = some ⟨99, 600, 7, 3⟩ ∧ 99 < 100)
    ∧ (doseRequest? (u16 8001 ++ u16 0 ++ [0, 0]) = some ⟨8001, 0, 0, 0⟩ ∧ 8000 < 8001)
    ∧ (doseRequest? (u16 100 ++ u16 601 ++ [7, 3]) = some ⟨100, 601, 7, 3⟩ ∧ doseRequest? (u16 100 ++ u16 0 ++ [8, 3]) = some ⟨100, 0, 8, 3⟩
      ∧ doseRequest? (u16 100 ++ u16 0 ++ [7, 4]) = some ⟨100, 0, 7, 4⟩)
    ∧ (doseRequest? (u16 100 ++ u16 600 ++ [7, 3]) = some ⟨100, 600, 7, 3⟩ ∧ 7 ≤ 7 ∧ 3 ≤ 3)
    ∧ (TakesAtOnce (mixerStation 0) { hall with haltRegistered := true })
    ∧ (hall.haltRegistered = false ∧ hall.lines[(0 : Line)] = .dosed 7760 1 600 ∧ hall.lines[(1 : Line)] = .void 7755
      ∧ hall.lines[(2 : Line)] = .idle ∧ hall.lots.length < 64)
    ∧ (TakesAtOnce (mixerStation 2) { hall with lots := List.replicate 64 (lot 1 .curing 0 none) }
      ∧ 64 ≤ (List.replicate 64 (lot 1 .curing 0 none)).length) := by decide

/-- A dose for each refusal of checks 8 and 9 (cases C and D), under recipe 0 on line 2. -/
theorem test_witness_DosqRefusalOrder_doses :
    selectRecipe (dosing richer).recipes 2 1 420 = some 0 ∧ (dosing richer).lines[(2 : Line)] = .idle
    ∧ ((computeDose richer 3000 420).allowance : Int) < (computeDose richer 3000 420).excess
    ∧ (computeDose ordinary 8000 0).excess ≤ (computeDose ordinary 8000 0).allowance
    ∧ (dosing ordinary).limits[(2 : Line)].cementMax < (computeDose ordinary 8000 0).cement
    ∧ (computeDose ordinary 4000 50).cement ≤ (dosing ordinary).limits[(2 : Line)].cementMax
    ∧ (dosing ordinary).limits[(2 : Line)].waterMax < (computeDose ordinary 4000 50).water
    ∧ (computeDose { ordinary with additiveRatio := 80 } 2400 180).excess
      ≤ (computeDose { ordinary with additiveRatio := 80 } 2400 180).allowance
    ∧ (computeDose { ordinary with additiveRatio := 80 } 2400 180).cement ≤ 1500
    ∧ (computeDose { ordinary with additiveRatio := 80 } 2400 180).water ≤ 1200
    ∧ 100 < (computeDose { ordinary with additiveRatio := 80 } 2400 180).additive := by decide

theorem test_witness_DosqRefusalOrder_none : ∀ k : RecipeNo, ¬ State.reset.recipes[k].Accepts 0 0 0 := by
  unfold Recipe.Accepts
  decide

/-- Case A on line 0, and case B, a wet dose, on line 1. -/
theorem test_witness_DosqAccepted :
    TakesAtOnce (mixerStation 0) (dosing ordinary) ∧ argsFit (u16 2400 ++ u16 180 ++ [1, 2]) = true
    ∧ doseRequest? (u16 2400 ++ u16 180 ++ [1, 2]) = some ⟨2400, 180, 1, 2⟩ ∧ (dosing ordinary).haltRegistered = false
    ∧ (dosing ordinary).lines[(0 : Line)] = .idle ∧ (dosing ordinary).lots.length < 64
    ∧ selectRecipe (dosing ordinary).recipes 2 1 180 = some 0
    ∧ (computeDose ordinary 2400 180).excess ≤ (computeDose ordinary 2400 180).allowance
    ∧ (computeDose ordinary 2400 180).cement ≤ (dosing ordinary).limits[(0 : Line)].cementMax
    ∧ (computeDose ordinary 2400 180).water ≤ (dosing ordinary).limits[(0 : Line)].waterMax
    ∧ (computeDose ordinary 2400 180).additive ≤ (dosing ordinary).limits[(0 : Line)].additiveMax
    ∧ 0 < (computeDose richer 3000 330).excess ∧ (computeDose richer 3000 330).excess ≤ (computeDose richer 3000 330).allowance
    ∧ TakesAtOnce (mixerStation 1) (dosing richer) := by decide

theorem test_witness_DosesStayWithinLimits :
    (after (.dosq (mixerStation 0) (u16 2400 ++ u16 180 ++ [1, 2])) (dosing ordinary)).answers[mixerStation 0]
      = some ⟨0x10, .ok, false, .dose 591 464 40⟩ := by decide

theorem test_witness_DosesStayWithinLimits_next : exec (.dosq (mixerStation 0) (u16 2400 ++ u16 180 ++ [1, 2])) (dosing ordinary)
    = .next (after (.dosq (mixerStation 0) (u16 2400 ++ u16 180 ++ [1, 2])) (dosing ordinary)) := rfl

theorem test_witness_SparSetsLineLimits :
    TakesAtOnce supervisorStation hall ∧ ([1, 2, 3] : List Byte).length < 4
    ∧ (argsFit [6, 0, 0, 50] = true ∧ 5 < (6 : Byte).toNat)
    ∧ (parameterArgsFit [4, 0, 50] = true ∧ 3 < (4 : Byte).toNat) ∧ (beNat [0, 49] = 49 ∧ 49 < 50)
    ∧ (beNat [0x0F, 0xA1] = 4001 ∧ 4000 < 4001) ∧ (beNat [0x01, 0x91] = 401 ∧ 400 < 401)
    ∧ ((3 : Byte).toNat = (3 : Line).val ∧ beNat [0x0F, 0xA0] = 4000 ∧ beNat [0x01, 0x90] = 400) := by decide

theorem test_witness_DschPlacesTheLot :
    (∀ n : Line, TakesAtOnce (mixerStation n) hall) ∧ oneByte? [16] = some 16 ∧ 15 < 16 ∧ oneByte? [15] = some 15
    ∧ hall.lines[(2 : Line)] = .idle ∧ hall.lines[(1 : Line)] = .void 7755 ∧ hall.lines[(0 : Line)] = .dosed 7760 1 600
    ∧ (hall.lanes[(15 : Bay)].locked = false ∧ hall.lanes[(15 : Bay)].lots.length < hall.lanes[(15 : Bay)].capacity)
    ∧ (TakesAtOnce (mixerStation 0) { hall with lanes := hall.lanes.set 15 { Lane.coldStart with locked := true } })
    ∧ TakesAtOnce (mixerStation 0) { hall with lanes := hall.lanes.set 6 { lane [7740, 7744] with capacity := 2 } } := by decide

theorem test_witness_AbdnAndQlin :
    (∀ n : Line, TakesAtOnce (mixerStation n) hall) ∧ argsFit [] = true ∧ hall.lines[(2 : Line)] = .idle
    ∧ hall.lines[(0 : Line)] = .dosed 7760 1 600 ∧ hall.lines[(1 : Line)] = .void 7755 := by decide

theorem test_witness_HaltInputFiltered :
    hall.phase = .inService ∧ ((after (.phChange true) hall).phase = .inService ∧ (after (.phChange true) hall).qualifying = true
      ∧ (after (.phChange true) hall).phRaw = true ∧ (after (.phChange true) hall).haltRegistered = false)
    ∧ ((after (.phChange false) { hall with haltRegistered := true, phRaw := true }).qualifying = true
      ∧ (after (.phChange false) { hall with haltRegistered := true, phRaw := true }).phRaw = false
      ∧ (after (.phChange false) { hall with haltRegistered := true, phRaw := true }).haltRegistered = true)
    ∧ (hall.qualifying = false ∧ hall.phRaw = false ∧ hall.haltRegistered = false)
    ∧ ((after (.phChange true) hall).phRaw = true ∧ (after (.phChange false) { hall with haltRegistered := true }).haltRegistered = true)
    ∧ (beginStart .warm hall).phase ≠ .inService := by decide

theorem test_witness_TmprTakesReadings :
    TakesAtOnce hallStation hall ∧ ([0, 0] : List Byte).length < 3 ∧ (firstReading? [16, 0, 0] = some (16, 0) ∧ 15 < 16)
    ∧ (firstReading? [15, 0x03, 0x84] = some (15, 900) ∧ ([15, 0x03, 0x84] : List Byte).length < 6)
    ∧ (secondReading? [15, 0x03, 0x84, 16, 0, 0] = some (16, 0) ∧ secondReading? [15, 0x03, 0x84, 0, 0xFE, 0x6F] = some (0, -401))
    ∧ argsFit [15, 0x03, 0x84, 0, 0xFE, 0x6F, 0] = true ∧ ((-400 : Int) ≤ -400 ∧ (-401 : Int) < -400 ∧ (900 : Int) < 901) := by decide

theorem test_witness_LockAndUlck :
    TakesAtOnce supervisorStation hall ∧ argsFit [15, 1] = true ∧ oneByte? [16] = some 16 ∧ 15 < 16 ∧ oneByte? [15, 1] = some 15 := by
  decide

theorem test_witness_SparSetsHallParameters :
    TakesAtOnce supervisorStation hall ∧ parameterArgsFit [0, 0, 60] = true ∧ beNat [0, 60] = 60 ∧ (1 : Byte).toNat ≠ 0
    ∧ (beNat [0, 61] = 61 ∧ 60 < 61) ∧ (beNat [0x0E, 0x10] = 3600 ∧ beNat [0x0E, 0x11] = 3601 ∧ 3600 < 3601)
    ∧ (beNat [0, 119] = 119 ∧ 119 < 120) ∧ (15 < (16 : Byte).toNat ∧ beNat [0, 7] = 7 ∧ 6 < 7)
    ∧ ((6 : Byte).toNat = (6 : Bay).val ∧ hall.lanes[(6 : Bay)].lots ≠ []) ∧ hall.lanes[(15 : Bay)].lots = [] := by decide

theorem test_witness_StimSetsTheMinute :
    TakesAtOnce supervisorStation hall ∧ argsFit [0, 0, 0] = true ∧ ([0, 0, 0] : List Byte).length < 4
    ∧ minute? [0xFF, 0xFF, 0xFF, 0xFF] = some 4294967295 := by decide

/-- The second event that ends a minute, and one that does not. -/
theorem test_witness_SecondEventRunsTimers :
    (HallLaw hall ∧ PermitLaw hall ∧ hall.phase = .inService ∧ hall.secondInMinute = 59)
    ∧ HallLaw { hall with secondInMinute := 0 } ∧ PermitLaw { hall with secondInMinute := 0 } ∧ ({ hall with secondInMinute := 0 } : State).phase = .inService :=
  ⟨⟨hall_law, hall_permits, rfl, rfl⟩, hallLaw_withSecond hall_law 0, hall_permits, rfl⟩

/-- The interval event to come, taken already, and one second too early. -/
theorem test_witness_IntervalCreditsLots :
    (HallLaw hall ∧ hall.phase = .inService ∧ hall.secondInMinute = 59 ∧ hall.intervalTaken = false)
    ∧ ((after .intervalEvent hall).phase = .inService ∧ (after .intervalEvent hall).intervalTaken = true)
    ∧ (({ hall with secondInMinute := 58 } : State).phase = .inService ∧ ({ hall with secondInMinute := 58 } : State).secondInMinute < 59) :=
  ⟨⟨hall_law, rfl, rfl, rfl⟩, by decide, by decide⟩

theorem test_witness_IntervalHandsOver : HallLaw hall := hall_law

theorem test_witness_ClnxClaimsTheHead :
    TakesAtOnce loadoutStation hall ∧ argsFit [1] = true ∧ ([1] : List Byte).length < 2 ∧ truck? [0, 0] = some 0
    ∧ truck? [0xFF, 0xFF] = some 65535 ∧ hall.queue = 7701 :: [7740] ∧ hall.claims.length < 4
    ∧ (∀ c ∈ hall.claims, c.truck ≠ 65535) ∧ hall.lot? 7701 = some (ripe 7701 .cured 0 0)
    ∧ (ripe 7701 .cured 0 0).place = some ⟨0, 0, 2000000⟩ ∧ (truck? [0, 12] = some 12 ∧ ∃ c ∈ hall.claims, c.truck = 12)
    ∧ State.reset.queue = [] ∧ TakesAtOnce loadoutStation State.reset
    ∧ TakesAtOnce loadoutStation { hall with claims := hall.claims ++ hall.claims } ∧ 4 ≤ (hall.claims ++ hall.claims).length := by decide

theorem test_witness_CnfmReleasesTheLot :
    TakesAtOnce loadoutStation hall ∧ argsFit (u24 7690 ++ u16 12 ++ u16 40000) = true ∧ ([0, 0, 0, 0, 0, 0] : List Byte).length < 7
    ∧ confirmation? (u24 7690 ++ u16 0 ++ u16 40000) = some ⟨7690, 0, 40000⟩
    ∧ (confirmation? (u24 7690 ++ u16 12 ++ u16 40001) = some ⟨7690, 12, 40001⟩ ∧ 40000 < 40001)
    ∧ confirmation? (u24 7691 ++ u16 12 ++ u16 40000) = some ⟨7691, 12, 40000⟩ ∧ hall.lot? 7691 = none
    ∧ hall.lot? 7690 = some (ripe 7690 .claimed 3 0) ∧ (∀ c ∈ hall.claims, c.serial = 7690 → c.truck ≠ 30)
    ∧ (∃ c ∈ hall.claims, c.serial = 7690 ∧ c.truck = 12) ∧ hall.releaseLog.length ≤ 32
    ∧ (ripe 7690 .claimed 3 0).place = some ⟨3, 0, 2000000⟩
    ∧ (hall.lot? 7701 = some (ripe 7701 .cured 0 0) ∧ (ripe 7701 .cured 0 0).state ≠ .claimed)
    ∧ (TakesAtOnce loadoutStation { hall with releaseLog := List.replicate 32 record } ∧ (List.replicate 32 record).length ≤ 32) := by decide

theorem test_witness_RtrnReturnsTheClaim :
    TakesAtOnce loadoutStation hall ∧ argsFit [1, 2] = true ∧ ([1, 2] : List Byte).length < 3 ∧ serial? (u24 7691) = some 7691
    ∧ hall.lot? 7691 = none ∧ serial? (u24 7701) = some 7701 ∧ hall.lot? 7701 = some (ripe 7701 .cured 0 0)
    ∧ serial? (u24 7690) = some 7690 ∧ hall.lot? 7690 = some (ripe 7690 .claimed 3 0) := by decide

theorem test_witness_QrelReadsTheLog :
    TakesAtOnce loadoutStation hall ∧ TakesAtOnce supervisorStation hall ∧ argsFit [0, 3, 1] = true ∧ ([0] : List Byte).length < 2
    ∧ (recordPage? [0, 4, 1] = some (0, 4, 1) ∧ 3 < 4) ∧ (recordPage? [0, 3, 2] = some (0, 3, 2) ∧ 1 < 2)
    ∧ (recordPage? [1, 3, 1] = some (1, 3, 1) ∧ hall.releaseLog.length ≤ 1)
    ∧ (recordPage? [0, 3] = some (0, 3, 0) ∧ 0 < hall.releaseLog.length ∧ hall.releaseLog[hall.releaseLog.length - 1 - 0]? = some record) := by
  decide

theorem test_witness_ExpiriesOnTheirOwn :
    hall.phase = .inService ∧ hall.lines[(1 : Line)].endsNext = false ∧ hall.lines[(0 : Line)] = .dosed 7760 1 600
    ∧ (State.reset.phase = .inService ∧ ∀ c ∈ State.reset.claims, 1 < c.remaining) ∧ ∃ c ∈ hall.claims, c.remaining ≤ 1 := by decide

theorem test_witness_HoldHoldsTheLot :
    TakesAtOnce supervisorStation hall ∧ argsFit [1, 2] = true ∧ ([1, 2] : List Byte).length < 3
    ∧ (serial? (u24 7691) = some 7691 ∧ hall.lot? 7691 = none)
    ∧ (serial? (u24 7760) = some 7760 ∧ hall.lot? 7760 = some (lot 7760 .dosed 0 none))
    ∧ (serial? (u24 7730) = some 7730 ∧ (hall.lot? 7730).map (fun l => (l.state, l.hold)) = some (.curing, some .supervisor))
    ∧ (serial? (u24 7701) = some 7701 ∧ (hall.lot? 7701).map (fun l => (l.state, l.hold)) = some (.cured, none))
    ∧ (serial? (u24 7690) = some 7690 ∧ (hall.lot? 7690).map (·.state) = some .claimed) := by decide

theorem test_witness_UnhdReleasesTheHold :
    TakesAtOnce supervisorStation hall ∧ argsFit [1, 2] = true ∧ (serial? (u24 7691) = some 7691 ∧ hall.lot? 7691 = none)
    ∧ (hall.lot? 7701).map (·.hold) = some none
    ∧ (serial? (u24 7730) = some 7730 ∧ (hall.lot? 7730).map (fun l => (l.state, l.hold)) = some (.curing, some .supervisor)
      ∧ hall.queue.contains 7730 = false)
    ∧ (TakesAtOnce supervisorStation { bay10 with lots := [{ ripe 8204 .cured 10 0 with hold := some .hot }] }
      ∧ ({ ripe 8204 .cured 10 0 with hold := some .hot } : Lot).place.map (·.position) = some 0 ∧ bay10.queue.contains 8204 = false) := by
  decide

theorem test_witness_RjctRejectsTheLot :
    TakesAtOnce supervisorStation hall ∧ argsFit [1, 2] = true ∧ (serial? (u24 7691) = some 7691 ∧ hall.lot? 7691 = none)
    ∧ ((hall.lot? 7755).map (·.state) = some .void ∧ (hall.lot? 7680).map (·.state) = some .rejected)
    ∧ (hall.lot? 7760).map (·.state) = some .dosed ∧ (hall.lot? 7730).map (·.state) = some .curing
    ∧ (hall.lot? 7702).map (·.state) = some .overdue
    ∧ (hall.lot? 7690).map (fun l => (l.state, l.place.map (·.position))) = some (.claimed, some 0) := by decide

theorem test_witness_ClrbClearsTheFront :
    TakesAtOnce supervisorStation hall ∧ oneByte? [16] = some 16 ∧ 15 < 16 ∧ hall.lanes[(15 : Bay)].lots = []
    ∧ (hall.lanes[(6 : Bay)].lots = 7740 :: [7744] ∧ (hall.lot? 7740).map (·.state) = some .cured)
    ∧ (hall.lanes[(11 : Bay)].lots = 7680 :: [] ∧ (hall.lot? 7680).map (·.state) = some .rejected)
    ∧ (7740 ∉ ({ hall with queue := [7701] } : State).queue ∧ (hall.lot? 7740).map (·.hold) = some none)
    ∧ (hall.lanes[(9 : Bay)].lots = 7730 :: [] ∧ (hall.lot? 7730).map (·.hold) = some (some .supervisor)) := by decide

theorem test_witness_ExtdExtendsTheLot :
    TakesAtOnce supervisorStation hall ∧ ([0, 0, 0, 0] : List Byte).length < 5 ∧ argsFit (u24 7702 ++ u16 60) = true
    ∧ (extension? (u24 7702 ++ u16 59) = some (7702, 59) ∧ 59 < 60)
    ∧ (extension? (u24 7702 ++ u16 10081) = some (7702, 10081) ∧ 10080 < 10081)
    ∧ (extension? (u24 7691 ++ u16 60) = some (7691, 60) ∧ hall.lot? 7691 = none)
    ∧ (extension? (u24 7701 ++ u16 10080) = some (7701, 10080) ∧ (hall.lot? 7701).map (·.state) = some .cured)
    ∧ (hall.lot? 7730).map (·.state) = some .curing ∧ (hall.lot? 7702).map (·.state) = some .overdue := by decide

theorem test_witness_AttentionCommands :
    TakesAtOnce 6 hall ∧ argsFit [0x1F, 0xFF] = true ∧ kindSet? [0x1F] = none ∧ kindSet? [0x20, 0x00] = none
    ∧ kindSet? [0x1F, 0xFF] = some 0x1FFF := by decide

theorem test_witness_OtherFramesOnTheBus :
    hall.link = .onBus ∧ (after .mainPowerLoss hall).link ≠ .onBus ∧ identBase hall.straps = 0x100
    ∧ (⟨true, false, false, 0x105, []⟩ : RxFrame).extended = true ∧ (⟨false, false, true, 0x105, []⟩ : RxFrame).busError = true
    ∧ ((⟨false, true, false, 0x12F, []⟩ : RxFrame).ident < 0x100 + 0x30 ∧ 0x100 + 0x41 < (⟨false, true, false, 0x142, []⟩ : RxFrame).ident)
    ∧ ((⟨false, false, false, 0xFF, []⟩ : RxFrame).ident < 0x100 ∧ 0x100 + 6 < (⟨false, false, false, 0x107, []⟩ : RxFrame).ident)
    ∧ ((⟨false, true, false, 0x141, []⟩ : RxFrame).ident = 0x100 + 0x30 + (17 : StandingNo).val)
    ∧ ((⟨false, false, false, 0x106, []⟩ : RxFrame).ident = 0x100 + (6 : Station).val) := by decide

theorem test_witness_AttemptSendsLowestSlot :
    State.reset.link = .onBus ∧ State.reset.transmitter = none ∧ State.reset.slots[(7 : SlotNo)] = .pending
    ∧ (∀ j : SlotNo, j < 7 → State.reset.slots[j] ≠ .pending)
    ∧ (after (.qlin 1 []) hall).answers[(1 : Station)] = some ⟨0x13, .ok, false, .line .void false false (some 7755) 0⟩
    ∧ State.reset.queue = [] ∧ hall.queue = 7701 :: [7740] ∧ hall.lot? 7701 = some (ripe 7701 .cured 0 0)
    ∧ (ripe 7701 .cured 0 0).place = some ⟨0, 0, 2000000⟩ := by decide

/-- A sending standing slot, the same marked again, and a sending answer slot with and without a waiting command. -/
theorem test_witness_AttemptsEnd :
    ((after .attemptStart (after (.remoteRequest 5) hall)).link = .onBus
      ∧ (after .attemptStart (after (.remoteRequest 5) hall)).transmitter.map (·.slot) = some 19
      ∧ (after .attemptStart (after (.remoteRequest 5) hall)).slots[(19 : SlotNo)] = .sending
      ∧ (after (.remoteRequest 5) (after .attemptStart (after (.remoteRequest 5) hall))).slots[(19 : SlotNo)] = .sendingMarked)
    ∧ ((after .attemptStart (after (.qlin 1 []) hall)).transmitter.map (·.slot) = some (answerSlot 1)
      ∧ (after .attemptStart (after (.qlin 1 []) hall)).slots[answerSlot 1] = .sending
      ∧ ((after .attemptStart (after (.qlin 1 []) hall)).answers[(1 : Station)]).map (·.code) = some 0x13
      ∧ (after .attemptStart (after (.qlin 1 []) hall)).inboxes[(1 : Station)] = none)
    ∧ (after (.abdn 1 []) (after .attemptStart (after (.qlin 1 []) hall))).inboxes[(1 : Station)] = some [0x12] ∧ dataFits [0x12] = true := by
  decide

theorem test_witness_BusErrorsAndBusOff :
    ((after .attemptStart (after (.remoteRequest 5) hall)).link = .onBus
      ∧ (after .attemptStart (after (.remoteRequest 5) hall)).transmitter.map (·.slot) = some 19
      ∧ (after .attemptStart (after (.remoteRequest 5) hall)).slots[(19 : SlotNo)] = .sending)
    ∧ (hall.link = .onBus ∧ hall.transmitter = none) ∧ (after (.busError 256 0) hall).link = .busOff
    ∧ (after (.busError 255 0) hall).link = .onBus := by decide

theorem test_witness_StartsBegin :
    (after .mainPowerLoss hall).phase = .unpowered ∧ (after .resetAssertionRegistered hall).phase = .heldReset
    ∧ hall.phase ≠ .unpowered ∧ (after .vbakBelowRetention (after .mainPowerLoss hall)).retentionLost = true := by decide

theorem test_witness_RestartFollowsItsAnswer :
    TakesAtOnce supervisorStation hall ∧ argsFit [] = true ∧ (after .attemptStart (after (.rstw 6 []) hall)).link = .onBus
    ∧ (after .attemptStart (after (.rstw 6 []) hall)).transmitter.map (·.slot) = some (answerSlot supervisorStation)
    ∧ (after .attemptStart (after (.rstw 6 []) hall)).answers[supervisorStation] = some ⟨0x4E, .ok, false, .none⟩
    ∧ (after .attemptStart (after (.rstc 6 []) hall)).answers[supervisorStation] = some ⟨0x4F, .ok, false, .none⟩ := by decide

theorem test_witness_FaultIsSilent :
    ((beginStart .warm hall).phase = .starting ∧ LinkLaw (beginStart .warm hall))
    ∧ ((after (.selfTest false) (beginStart .warm hall)).phase = .fault ∧ LinkLaw (after (.selfTest false) (beginStart .warm hall)))
    ∧ ((after .resetAssertionRegistered hall).phase = .heldReset ∧ LinkLaw (after .resetAssertionRegistered hall))
    ∧ ((after .mainPowerLoss hall).phase = .unpowered ∧ LinkLaw (after .mainPowerLoss hall)) ∧ hall.phase ≠ .starting := by
  refine ⟨⟨by decide, ?_⟩, ⟨by decide, ?_⟩, ⟨by decide, ?_⟩, ⟨by decide, ?_⟩, by decide⟩ <;> constructor <;> decide

/-- For StartsComplete, WarmStartKeepsTheHall and ColdStartEmptiesTheHall. -/
theorem test_witness_starts :
    (beginStart .warm hall).phase = .starting ∧ (∀ i : SlotNo, (beginStart .warm hall).slots[i] = .empty)
    ∧ (beginStart .warm hall).decidedCause.isCold = false ∧ (beginStart .supervisorCold hall).phase = .starting
    ∧ (∀ i : SlotNo, (beginStart .supervisorCold hall).slots[i] = .empty)
    ∧ (beginStart .supervisorCold hall).decidedCause.isCold = true := by decide

/-- The step of the hall: its queued second event. With the laws of the hall above it meets the hypotheses of every statement on steps. -/
theorem test_witness_steps : step hall = .next (after .secondEvent { hall with pending := [] }) := rfl

theorem test_witness_StepsKeepPermits : PermitLaw hall := hall_permits

theorem test_witness_StepsKeepRanges : RecipeLaw hall ∧ ParameterLaw hall ∧ TimeLaw hall ∧ ReadingLaw hall :=
  ⟨hall_recipes, hall_parameters, hall_time, hall_readings⟩

theorem test_witness_StepsKeepLinkAndPhase : LinkLaw hall ∧ PhaseLaw hall := ⟨hall_link, hall_phase⟩

theorem test_witness_StepsKeepAttention : AttentionLaw hall := hall_attention

theorem test_witness_StepsKeepTheHall : HallLaw hall := hall_law

theorem test_witness_StepsKeepConditions : HallLaw hall ∧ ConditionLaw hall := ⟨hall_law, hall_conditions⟩

theorem test_witness_StepsKeepTheLog : HallLaw hall ∧ LogLaw hall := ⟨hall_law, hall_log⟩

theorem test_witness_LotsOnlyGrow :
    ∃ l ∈ hall.lots, ∃ m ∈ (after .secondEvent { hall with pending := [] }).lots, m.serial = l.serial ∧ m.state ≠ l.state := by decide

theorem test_witness_CountsAddUp : HallLaw hall := hall_law

end Sys2Proof.Tests
end

section
/-! ## Lots: what may change after the dose, and how a state may change -/

namespace Sys2Proof.Machine

open Sys2Proof

/-- A lot's serial, snapshot and dose: every field that may change after its creation at a fixed value (R33). -/
def Lot.snapshot (l : Lot) : Lot :=
  { l with
    state := .dosed, maxAge := 0, extended := false, interrupted := false, hotHeld := false, hold := none, place := none
    age := 0, maturity := 0, hotMinutes := 0, outages := 0, extensions := 0 }

/-- Two lots of one snapshot agree in every field of it. -/
theorem Lot.snapshot_eq_iff {l m : Lot} : m.snapshot = l.snapshot ↔
    m.serial = l.serial ∧ m.line = l.line ∧ m.source = l.source ∧ m.chlorideClass = l.chlorideClass ∧ m.recipe = l.recipe
      ∧ m.effectiveTarget = l.effectiveTarget ∧ m.datum = l.datum ∧ m.cap = l.cap ∧ m.minAge = l.minAge
      ∧ m.hotLimit = l.hotLimit ∧ m.wetAsh = l.wetAsh ∧ m.dryAsh = l.dryAsh ∧ m.cement = l.cement ∧ m.water = l.water
      ∧ m.additive = l.additive ∧ m.wet = l.wet := by
  simp [Lot.snapshot]

/-- m is l later on: the same snapshot and dose, no count lower and no flag lost (R16, R33). -/
structure Lot.Grows (l m : Lot) : Prop where
  snapshot : m.snapshot = l.snapshot
  maxAge : l.maxAge ≤ m.maxAge
  age : l.age ≤ m.age
  maturity : l.maturity ≤ m.maturity
  hotMinutes : l.hotMinutes ≤ m.hotMinutes
  outages : l.outages ≤ m.outages
  extensions : l.extensions ≤ m.extensions
  extended : l.extended = true → m.extended = true
  interrupted : l.interrupted = true → m.interrupted = true
  hotHeld : l.hotHeld = true → m.hotHeld = true

theorem Lot.Grows.refl (l : Lot) : l.Grows l := by constructor <;> simp

theorem Lot.Grows.trans {k l m : Lot} (a : k.Grows l) (b : l.Grows m) : k.Grows m where
  snapshot := b.snapshot.trans a.snapshot
  maxAge := a.maxAge.trans b.maxAge
  age := a.age.trans b.age
  maturity := a.maturity.trans b.maturity
  hotMinutes := a.hotMinutes.trans b.hotMinutes
  outages := a.outages.trans b.outages
  extensions := a.extensions.trans b.extensions
  extended := b.extended ∘ a.extended
  interrupted := b.interrupted ∘ a.interrupted
  hotHeld := b.hotHeld ∘ a.hotHeld

theorem Lot.Grows.serial {l m : Lot} (h : l.Grows m) : m.serial = l.serial := (Lot.snapshot_eq_iff.1 h.snapshot).1

/-- The rows of Table 1–3. -/
def stateRows : List (LotState × LotState) :=
  [(.dosed, .curing), (.dosed, .void), (.curing, .cured), (.curing, .overdue), (.overdue, .cured), (.overdue, .curing),
    (.cured, .claimed), (.claimed, .cured), (.curing, .rejected), (.overdue, .rejected), (.cured, .rejected),
    (.claimed, .rejected)]

/-- The states that a lot may have after any number of changes other than its discharge and its claim: those two rows of Table 1–3
are never one of several changes in a step. -/
def LotState.reaches : LotState → List LotState
  | .dosed => [.dosed, .void]
  | .void => [.void]
  | .curing | .overdue => [.curing, .overdue, .cured, .rejected]
  | .cured => [.cured, .rejected]
  | .claimed => [.claimed, .cured, .rejected]
  | .rejected => [.rejected]

theorem LotState.reaches_refl (a : LotState) : a ∈ a.reaches := by cases a <;> decide

theorem LotState.reaches_trans {a b c : LotState} (ab : b ∈ a.reaches) (bc : c ∈ b.reaches) : c ∈ a.reaches := by
  revert ab bc
  cases a <;> cases b <;> cases c <;> decide

theorem LotState.row_of_reaches {a b : LotState} (h : b ∈ a.reaches) : b = a ∨ (a, b) ∈ stateRows := by
  revert h
  cases a <;> cases b <;> decide

/-- m is l after changes that no discharge and no claim is among. -/
structure Lot.Ages (l m : Lot) : Prop where
  grows : l.Grows m
  state : m.state ∈ l.state.reaches

theorem Lot.Ages.refl (l : Lot) : l.Ages l := ⟨.refl l, l.state.reaches_refl⟩

theorem Lot.Ages.trans {k l m : Lot} (a : k.Ages l) (b : l.Ages m) : k.Ages m :=
  ⟨a.grows.trans b.grows, LotState.reaches_trans a.state b.state⟩

/-- m is l after one step (R3). -/
structure Lot.Follows (l m : Lot) : Prop where
  grows : l.Grows m
  row : m.state = l.state ∨ (l.state, m.state) ∈ stateRows

theorem Lot.Ages.follows {l m : Lot} (h : l.Ages m) : l.Follows m := ⟨h.grows, LotState.row_of_reaches h.state⟩

theorem Lot.Follows.refl (l : Lot) : l.Follows l := (Lot.Ages.refl l).follows

/-- A sum held at a limit is no less than a term within the limit. -/
theorem le_satAdd {limit a : Nat} (h : a ≤ limit) (b : Nat) : a ≤ satAdd limit a b := by
  simp only [satAdd]
  omega

theorem satAdd_le (limit a b : Nat) : satAdd limit a b ≤ limit := Nat.min_le_left _ _

/-! ### The fields that a lot's changes leave -/

@[simp] theorem Lot.withState_serial (st : LotState) (l : Lot) : (l.withState st).serial = l.serial := rfl
@[simp] theorem Lot.withState_state (st : LotState) (l : Lot) : (l.withState st).state = st := rfl
@[simp] theorem Lot.withState_line (st : LotState) (l : Lot) : (l.withState st).line = l.line := rfl
@[simp] theorem Lot.withState_place (st : LotState) (l : Lot) : (l.withState st).place = l.place := rfl
@[simp] theorem Lot.withState_hold (st : LotState) (l : Lot) : (l.withState st).hold = l.hold := rfl
@[simp] theorem Lot.withHold_serial (r : Option HoldReason) (l : Lot) : (l.withHold r).serial = l.serial := rfl
@[simp] theorem Lot.withHold_state (r : Option HoldReason) (l : Lot) : (l.withHold r).state = l.state := rfl
@[simp] theorem Lot.withHold_line (r : Option HoldReason) (l : Lot) : (l.withHold r).line = l.line := rfl
@[simp] theorem Lot.withHold_place (r : Option HoldReason) (l : Lot) : (l.withHold r).place = l.place := rfl
@[simp] theorem Lot.withHold_hold (r : Option HoldReason) (l : Lot) : (l.withHold r).hold = r := rfl
@[simp] theorem Lot.advanced_serial (l : Lot) : l.advanced.serial = l.serial := rfl
@[simp] theorem Lot.advanced_state (l : Lot) : l.advanced.state = l.state := rfl
@[simp] theorem Lot.advanced_line (l : Lot) : l.advanced.line = l.line := rfl
@[simp] theorem Lot.advanced_hold (l : Lot) : l.advanced.hold = l.hold := rfl

theorem Lot.ready_iff {l : Lot} : l.ready = true ↔ l.state = .cured ∧ l.hold = none := by simp [Lot.ready]

theorem Lot.atFront_iff {l : Lot} : l.atFront = true ↔ ∃ p, l.place = some p ∧ p.position = 0 := by
  cases h : l.place <;> simp [Lot.atFront, h]

theorem Lot.atFront_congr {l m : Lot} (h : m.place = l.place) : m.atFront = l.atFront := by simp only [Lot.atFront, h]

theorem Lot.ages_withState {l : Lot} {st : LotState} (h : st ∈ l.state.reaches) : l.Ages (l.withState st) :=
  ⟨⟨rfl, le_rfl, le_rfl, le_rfl, le_rfl, le_rfl, le_rfl, id, id, id⟩, h⟩

theorem Lot.ages_withHold (l : Lot) (r : Option HoldReason) : l.Ages (l.withHold r) :=
  ⟨⟨rfl, le_rfl, le_rfl, le_rfl, le_rfl, le_rfl, le_rfl, id, id, id⟩, l.state.reaches_refl⟩

theorem Lot.ages_advanced (l : Lot) : l.Ages l.advanced :=
  ⟨⟨rfl, le_rfl, le_rfl, le_rfl, le_rfl, le_rfl, le_rfl, id, id, id⟩, l.state.reaches_refl⟩

/-! ### The law of one lot -/

theorem LotLaw.inLane_of_place {l : Lot} (h : LotLaw l) {p : Place} (at_p : l.place = some p) : l.state.inLane = true := by
  have placed := h.placed
  rw [at_p] at placed
  exact placed.symm

theorem LotLaw.place_eq_none {l : Lot} (h : LotLaw l) (elsewhere : l.state.inLane = false) : l.place = none := by
  simpa using h.placed.trans elsewhere

/-- A held lot is CURING, OVERDUE or CURED; any other is unheld (R2). -/
theorem LotLaw.hold_eq_none {l : Lot} (h : LotLaw l) (free : l.state.holdable = false) : l.hold = none := by
  by_contra held
  simp [h.holdable held] at free

/-- A lot stays lawful that stands where it stood in another state, with another hold: both must fit, and a lot CURED or CLAIMED must
meet its criteria. -/
theorem LotLaw.restate {l : Lot} (h : LotLaw l) {st : LotState} {r : Option HoldReason} (lane : st.inLane = l.state.inLane)
    (hold : r ≠ none → st.holdable = true) (cured : st = .cured ∨ st = .claimed → l.meetsCriteria = true) :
    LotLaw ((l.withState st).withHold r) :=
  { h with
    placed := h.placed.trans lane.symm
    holdable := hold
    fresh := fun elsewhere => h.fresh (lane.symm.trans elsewhere)
    cured := cured }

end Sys2Proof.Machine
end

section
/-! ## The laws of the hall, by topic

`HallLaw` is taken apart into one law for each of the blocks that it joins, so that a change of one block is shown to keep that
block's law and cites the others as they stand. -/

namespace Sys2Proof.Machine

open Sys2Proof

/-- R54: the lines and their lots name each other. -/
structure LineLaw (s : State) : Prop where
  names : ∀ n : Line, LineNames s n s.lines[n]
  ofLots : ∀ l ∈ s.lots, LotOfLine s l

/-- R71: the lanes and the places of the lots agree. -/
structure LaneLaw (s : State) : Prop where
  room : ∀ b : Bay, s.lanes[b].lots.length ≤ s.lanes[b].capacity
  distinct : ∀ b : Bay, s.lanes[b].lots.Nodup
  standing : ∀ (b : Bay) (i serial : Nat), s.lanes[b].lots[i]? = some serial →
    ∃ l ∈ s.lots, l.serial = serial ∧ l.place.map (·.bay) = some b ∧ l.place.map (·.position) = some i
  listed : ∀ l ∈ s.lots, ∀ p ∈ l.place, s.lanes[p.bay].lots[p.position]? = some l.serial

/-- R102, R107: the queue holds exactly the CURED and unheld front lots. -/
structure QueueLaw (s : State) : Prop where
  distinct : s.queue.Nodup
  exact : ∀ serial : Nat, serial ∈ s.queue ↔ ∃ l ∈ s.lots, l.serial = serial ∧ l.ready = true ∧ l.atFront = true

/-- R111, of the claims list by itself. -/
structure ClaimListLaw (claims : List Claim) : Prop where
  atMost : claims.length ≤ Config.maxClaims
  trucks : (claims.map (·.truck)).Nodup
  serials : (claims.map (·.serial)).Nodup
  run : ∀ c ∈ claims, 1 ≤ c.remaining ∧ c.remaining ≤ 3600 ∧ 1 ≤ c.truck ∧ c.truck ≤ 65535

/-- R111: the claims name exactly the CLAIMED lots, which stand at the front. -/
structure ClaimLaw (s : State) : Prop where
  list : ClaimListLaw s.claims
  exact : ∀ l ∈ s.lots, l.serial ∈ s.claims.map (·.serial) ↔ l.state = .claimed
  live : ∀ serial ∈ s.claims.map (·.serial), ∃ l ∈ s.lots, l.serial = serial
  front : ∀ l ∈ s.lots, l.state = .claimed → l.atFront = true

/-- The laws of the hall, block by block. -/
structure HallParts (s : State) : Prop where
  serials : SerialLaw s
  lots : ∀ l ∈ s.lots, LotLaw l
  lines : LineLaw s
  lanes : LaneLaw s
  queue : QueueLaw s
  claims : ClaimLaw s
  parameters : ParameterLaw s
  recipes : RecipeLaw s

theorem hallParts_iff {s : State} : HallParts s ↔ HallLaw s where
  mp h :=
    { serials := h.serials, lots := h.lots, lines := h.lines.names, lotsOfLines := h.lines.ofLots, laneRoom := h.lanes.room
      laneDistinct := h.lanes.distinct, laneLots := h.lanes.standing, lotLanes := h.lanes.listed
      queueDistinct := h.queue.distinct, queueExact := h.queue.exact, claimsAtMost := h.claims.list.atMost
      claimTrucks := h.claims.list.trucks, claimSerials := h.claims.list.serials, claimsRun := h.claims.list.run
      claimsExact := fun l mem => (h.claims.exact l mem).symm.trans List.mem_map
      claimsLive := fun c mem => h.claims.live c.serial (List.mem_map_of_mem mem)
      claimedFront := h.claims.front, parameters := h.parameters, recipes := h.recipes }
  mpr h :=
    { serials := h.serials, lots := h.lots, lines := ⟨h.lines, h.lotsOfLines⟩
      lanes := ⟨h.laneRoom, h.laneDistinct, h.laneLots, h.lotLanes⟩, queue := ⟨h.queueDistinct, h.queueExact⟩
      claims :=
        { list := ⟨h.claimsAtMost, h.claimTrucks, h.claimSerials, h.claimsRun⟩
          exact := fun l mem => List.mem_map.trans (h.claimsExact l mem).symm
          live := by
            intro serial mem
            obtain ⟨c, named, rfl⟩ := List.mem_map.1 mem
            exact h.claimsLive c named
          front := h.claimedFront }
      parameters := h.parameters, recipes := h.recipes }

/-! ### Lots by serial -/

/-- Two live lots with one serial are one lot (R4). -/
theorem SerialLaw.eq_of_serial_eq {s : State} (h : SerialLaw s) {l m : Lot} (hl : l ∈ s.lots) (hm : m ∈ s.lots)
    (same : l.serial = m.serial) : l = m :=
  List.inj_on_of_nodup_map h.distinct hl hm same

theorem SerialLaw.lot?_eq_some_iff {s : State} (h : SerialLaw s) {serial : Nat} {l : Lot} :
    s.lot? serial = some l ↔ l ∈ s.lots ∧ l.serial = serial := by
  refine ⟨mem_of_lot? s, ?_⟩
  rintro ⟨mem, rfl⟩
  cases found : s.lot? l.serial with
  | none => exact absurd rfl ((lot?_eq_none s).1 found l mem)
  | some m =>
    obtain ⟨hm, same⟩ := mem_of_lot? s found
    rw [h.eq_of_serial_eq hm mem same]

theorem SerialLaw.lot?_serial {s : State} (h : SerialLaw s) {l : Lot} (mem : l ∈ s.lots) : s.lot? l.serial = some l :=
  h.lot?_eq_some_iff.2 ⟨mem, rfl⟩

/-- A live lot is queued exactly when it is CURED, unheld and at the front. -/
theorem HallParts.mem_queue_iff {s : State} (h : HallParts s) {l : Lot} (mem : l ∈ s.lots) :
    l.serial ∈ s.queue ↔ l.ready = true ∧ l.atFront = true := by
  refine (h.queue.exact _).trans ⟨?_, fun offered => ⟨l, mem, rfl, offered⟩⟩
  rintro ⟨m, hm, same, offered⟩
  exact h.serials.eq_of_serial_eq hm mem same ▸ offered

/-- A lane's list names a live lot in its place. -/
theorem LaneLaw.mem_iff {s : State} (h : LaneLaw s) (serials : SerialLaw s) {l : Lot} (mem : l ∈ s.lots) {b : Bay} :
    l.serial ∈ s.lanes[b].lots ↔ l.place.map (·.bay) = some b := by
  constructor
  · intro listed
    obtain ⟨i, at_i⟩ := List.mem_iff_getElem?.1 listed
    obtain ⟨m, hm, same, bay, -⟩ := h.standing b i _ at_i
    exact serials.eq_of_serial_eq hm mem same ▸ bay
  · intro bay
    obtain ⟨p, at_p, rfl⟩ := Option.map_eq_some_iff.1 bay
    exact List.mem_of_getElem? (h.listed l mem p at_p)

/-! ### What each block's law rests on -/

/-- t holds the parameters, the recipes and the serial counter of s. (Each field of a change that does not touch it is `rfl`.) -/
structure SameParameters (s t : State) : Prop where
  nextSerial : t.nextSerial = s.nextSerial := by rfl
  recipes : t.recipes = s.recipes := by rfl
  limits : t.limits = s.limits := by rfl
  staleLimit : t.staleLimit = s.staleLimit := by rfl
  capacity : ∀ b : Bay, t.lanes[b].capacity = s.lanes[b].capacity := by exact fun _ => rfl
  claimTimeout : t.claimTimeout = s.claimTimeout := by rfl

theorem SameParameters.parameterLaw {s t : State} (same : SameParameters s t) (h : ParameterLaw s) : ParameterLaw t where
  cement := same.limits ▸ h.cement
  water := same.limits ▸ h.water
  additive := same.limits ▸ h.additive
  staleLimit := same.staleLimit ▸ h.staleLimit
  capacity b := same.capacity b ▸ h.capacity b
  claimTimeout := same.claimTimeout ▸ h.claimTimeout
  nextSerial := same.nextSerial ▸ h.nextSerial

theorem SameParameters.recipeLaw {s t : State} (same : SameParameters s t) (h : RecipeLaw s) : RecipeLaw t := by
  simpa only [RecipeLaw, same.recipes] using h

/-- t has the lots of s, each changed by f with its serial kept. -/
structure LotsMapped (f : Lot → Lot) (s t : State) : Prop where
  lots : t.lots = s.lots.map f
  serial : ∀ l ∈ s.lots, (f l).serial = l.serial

section
variable {s t : State} {f : Lot → Lot} (m : LotsMapped f s t)
include m

theorem LotsMapped.mem_iff {k : Lot} : k ∈ t.lots ↔ ∃ l ∈ s.lots, f l = k := by rw [m.lots, List.mem_map]

theorem LotsMapped.serialLaw (next : t.nextSerial = s.nextSerial) (h : SerialLaw s) : SerialLaw t where
  atMost := by simpa [m.lots] using h.atMost
  distinct := by
    have same : t.lots.map (·.serial) = s.lots.map (·.serial) := by
      rw [m.lots, List.map_map]
      exact List.map_congr_left m.serial
    exact same ▸ h.distinct
  inRange k mem := by
    obtain ⟨l, hl, rfl⟩ := m.mem_iff.1 mem
    exact (m.serial l hl).symm ▸ h.inRange l hl
  counter := next ▸ h.counter

theorem LotsMapped.lotLaw (law : ∀ l ∈ s.lots, LotLaw (f l)) : ∀ k ∈ t.lots, LotLaw k := by
  intro k mem
  obtain ⟨l, hl, rfl⟩ := m.mem_iff.1 mem
  exact law l hl

/-- The lines keep their law when no lot changes its line and none becomes or ceases to be DOSED or VOID. -/
theorem LotsMapped.lineLaw (lines : t.lines = s.lines) (line : ∀ l ∈ s.lots, (f l).line = l.line)
    (dosed : ∀ l ∈ s.lots, (f l).state = .dosed ↔ l.state = .dosed) (void : ∀ l ∈ s.lots, (f l).state = .void ↔ l.state = .void)
    (h : LineLaw s) : LineLaw t where
  names n := by
    have names := h.names n
    rw [← lines] at names
    cases record : t.lines[n] with
    | idle => trivial
    | dosed serial remaining warning =>
      rw [record] at names
      obtain ⟨range, l, hl, rfl, state, rfl⟩ := names
      exact ⟨range, f l, m.mem_iff.2 ⟨l, hl, rfl⟩, m.serial l hl, (dosed l hl).2 state, line l hl⟩
    | void serial =>
      rw [record] at names
      obtain ⟨l, hl, rfl, state, rfl⟩ := names
      exact ⟨f l, m.mem_iff.2 ⟨l, hl, rfl⟩, m.serial l hl, (void l hl).2 state, line l hl⟩
  ofLots k mem := by
    obtain ⟨l, hl, rfl⟩ := m.mem_iff.1 mem
    simpa only [LotOfLine, lines, line l hl, m.serial l hl, dosed l hl, void l hl] using h.ofLots l hl

/-- The lanes keep their law when every lot stays in its place. -/
theorem LotsMapped.laneLaw (lanes : ∀ b : Bay, t.lanes[b].lots = s.lanes[b].lots)
    (capacity : ∀ b : Bay, t.lanes[b].capacity = s.lanes[b].capacity)
    (place : ∀ l ∈ s.lots, (f l).place = l.place) (h : LaneLaw s) : LaneLaw t where
  room b := by rw [lanes, capacity]; exact h.room b
  distinct b := by rw [lanes]; exact h.distinct b
  standing b i serial at_i := by
    rw [lanes] at at_i
    obtain ⟨l, hl, rfl, bay, position⟩ := h.standing b i serial at_i
    exact ⟨f l, m.mem_iff.2 ⟨l, hl, rfl⟩, m.serial l hl, (place l hl).symm ▸ bay, (place l hl).symm ▸ position⟩
  listed k mem p at_p := by
    obtain ⟨l, hl, rfl⟩ := m.mem_iff.1 mem
    rw [lanes, m.serial l hl]
    exact h.listed l hl p (place l hl ▸ at_p)

/-- The queue keeps its law when it holds a lot exactly as the changed lot stands. -/
theorem LotsMapped.queueLaw (distinct : t.queue.Nodup) (live : ∀ serial ∈ t.queue, ∃ l ∈ s.lots, l.serial = serial)
    (self : ∀ l ∈ s.lots, l.serial ∈ t.queue ↔ (f l).ready = true ∧ (f l).atFront = true) : QueueLaw t where
  distinct := distinct
  exact serial := by
    constructor
    · intro mem
      obtain ⟨l, hl, rfl⟩ := live serial mem
      exact ⟨f l, m.mem_iff.2 ⟨l, hl, rfl⟩, m.serial l hl, (self l hl).1 mem⟩
    · rintro ⟨k, hk, rfl, offered⟩
      obtain ⟨l, hl, rfl⟩ := m.mem_iff.1 hk
      rw [m.serial l hl]
      exact (self l hl).2 offered

/-- The claims keep their law when they name a lot exactly as the changed lot stands. -/
theorem LotsMapped.claimLaw (list : ClaimListLaw t.claims)
    (live : ∀ serial ∈ t.claims.map (·.serial), ∃ l ∈ s.lots, l.serial = serial)
    (self : ∀ l ∈ s.lots, l.serial ∈ t.claims.map (·.serial) ↔ (f l).state = .claimed)
    (front : ∀ l ∈ s.lots, (f l).state = .claimed → (f l).atFront = true) : ClaimLaw t where
  list := list
  exact k mem := by
    obtain ⟨l, hl, rfl⟩ := m.mem_iff.1 mem
    rw [m.serial l hl]
    exact self l hl
  live serial mem := by
    obtain ⟨l, hl, rfl⟩ := live serial mem
    exact ⟨f l, m.mem_iff.2 ⟨l, hl, rfl⟩, m.serial l hl⟩
  front k mem := by
    obtain ⟨l, hl, rfl⟩ := m.mem_iff.1 mem
    exact front l hl

end

/-! ### The claims list -/

theorem ClaimListLaw.sublist {claims fewer : List Claim} (h : ClaimListLaw claims) (sub : fewer.Sublist claims) :
    ClaimListLaw fewer where
  atMost := sub.length_le.trans h.atMost
  trucks := h.trucks.sublist (sub.map _)
  serials := h.serials.sublist (sub.map _)
  run c mem := h.run c (sub.mem mem)

/-- The serials that the claims name after one claim has ended. -/
theorem mem_serials_filter_ne {claims : List Claim} {ended serial : Nat} :
    serial ∈ (claims.filter (·.serial ≠ ended)).map (·.serial) ↔ serial ∈ claims.map (·.serial) ∧ serial ≠ ended := by
  simp only [List.mem_map, List.mem_filter, decide_eq_true_eq]
  constructor
  · rintro ⟨c, ⟨mem, other⟩, rfl⟩
    exact ⟨⟨c, mem, rfl⟩, other⟩
  · rintro ⟨⟨c, mem, rfl⟩, other⟩
    exact ⟨c, ⟨mem, other⟩, rfl⟩

/-! ### Changes outside the hall -/

/-- t is s to the laws of the hall: it differs at most in fields that they do not name. -/
structure SameHall (s t : State) : Prop extends SameParameters s t where
  lots : t.lots = s.lots := by rfl
  lines : t.lines = s.lines := by rfl
  lanes : ∀ b : Bay, t.lanes[b].lots = s.lanes[b].lots := by exact fun _ => rfl
  queue : t.queue = s.queue := by rfl
  claims : t.claims = s.claims := by rfl

theorem lineNames_congr {s t : State} (lots : t.lots = s.lots) {n : Line} {r : LineRecord} :
    LineNames t n r ↔ LineNames s n r := by
  cases r <;> simp [LineNames, lots]

theorem LineLaw.congr {s t : State} (h : LineLaw s) (lots : t.lots = s.lots) (lines : t.lines = s.lines) : LineLaw t where
  names n := by
    rw [lineNames_congr lots, lines]
    exact h.names n
  ofLots := by simpa only [lots, LotOfLine, lines] using h.ofLots

theorem ClaimLaw.congr {s t : State} (h : ClaimLaw s) (lots : t.lots = s.lots) (claims : t.claims = s.claims) : ClaimLaw t where
  list := claims ▸ h.list
  exact := by simpa only [claims, lots] using h.exact
  live := by simpa only [claims, lots] using h.live
  front := lots ▸ h.front

theorem LaneLaw.congr {s t : State} (h : LaneLaw s) (lots : t.lots = s.lots) (lanes : ∀ b : Bay, t.lanes[b].lots = s.lanes[b].lots)
    (room : ∀ b : Bay, s.lanes[b].lots.length ≤ t.lanes[b].capacity) : LaneLaw t where
  room b := lanes b ▸ room b
  distinct b := lanes b ▸ h.distinct b
  standing := by simpa only [lanes, lots] using h.standing
  listed := by simpa only [lanes, lots] using h.listed

/-- t has the lots and the queue of s; the lines, the lanes, the claims and the parameters keep their own laws. -/
theorem HallParts.congr {s t : State} (h : HallParts s) (lots : t.lots = s.lots) (queue : t.queue = s.queue)
    (next : t.nextSerial = s.nextSerial) (lines : LineLaw t) (lanes : LaneLaw t) (claims : ClaimLaw t)
    (parameters : ParameterLaw t) (recipes : RecipeLaw t) : HallParts t where
  serials :=
    { atMost := lots ▸ h.serials.atMost, distinct := lots ▸ h.serials.distinct, inRange := lots ▸ h.serials.inRange
      counter := next ▸ h.serials.counter }
  lots := lots ▸ h.lots
  lines := lines
  lanes := lanes
  queue := ⟨queue ▸ h.queue.distinct, by simpa only [queue, lots] using h.queue.exact⟩
  claims := claims
  parameters := parameters
  recipes := recipes

theorem SameHall.hallParts {s t : State} (same : SameHall s t) (h : HallParts s) : HallParts t :=
  h.congr same.lots same.queue same.nextSerial (h.lines.congr same.lots same.lines)
    (h.lanes.congr same.lots same.lanes fun b => same.capacity b ▸ h.lanes.room b) (h.claims.congr same.lots same.claims)
    (same.parameterLaw h.parameters) (same.recipeLaw h.recipes)

theorem SameHall.refl (s : State) : SameHall s s := {}

theorem SameHall.trans {s u t : State} (a : SameHall s u) (b : SameHall u t) : SameHall s t where
  nextSerial := b.nextSerial.trans a.nextSerial
  recipes := b.recipes.trans a.recipes
  limits := b.limits.trans a.limits
  staleLimit := b.staleLimit.trans a.staleLimit
  capacity n := (b.capacity n).trans (a.capacity n)
  claimTimeout := b.claimTimeout.trans a.claimTimeout
  lots := b.lots.trans a.lots
  lines := b.lines.trans a.lines
  lanes n := (b.lanes n).trans (a.lanes n)
  queue := b.queue.trans a.queue
  claims := b.claims.trans a.claims

end Sys2Proof.Machine
end

section
/-! ## Changes of the hall

`HallAges s t` says of a change that it keeps the laws and that every lot after it is a lot of before, aged: such changes follow one
another. `HallFollows s t` says the same of one whole step, in which a lot may also be discharged, claimed or created. -/

namespace Sys2Proof.Machine

open Sys2Proof

/-- The change keeps the laws of the hall, and every lot after it is an earlier one, aged. -/
def HallAges (s t : State) : Prop := HallParts s → HallParts t ∧ ∀ m ∈ t.lots, ∃ l ∈ s.lots, l.Ages m

/-- The step keeps the laws of the hall, and every lot after it follows an earlier one or is new. -/
def HallFollows (s t : State) : Prop :=
  HallParts s → HallParts t ∧ ∀ m ∈ t.lots, (∃ l ∈ s.lots, l.Follows m) ∨ ∀ l ∈ s.lots, l.serial ≠ m.serial

theorem HallAges.follows {s t : State} (h : HallAges s t) : HallFollows s t := by
  intro law
  obtain ⟨law', aged⟩ := h law
  refine ⟨law', fun m mem => .inl ?_⟩
  obtain ⟨l, hl, ages⟩ := aged m mem
  exact ⟨l, hl, ages.follows⟩

theorem HallAges.trans {s u t : State} (a : HallAges s u) (b : HallAges u t) : HallAges s t := by
  intro law
  obtain ⟨law_u, aged_u⟩ := a law
  obtain ⟨law_t, aged_t⟩ := b law_u
  refine ⟨law_t, fun m hm => ?_⟩
  obtain ⟨l, hl, lm⟩ := aged_t m hm
  obtain ⟨k, hk, kl⟩ := aged_u l hl
  exact ⟨k, hk, kl.trans lm⟩

theorem SameHall.ages {s t : State} (same : SameHall s t) : HallAges s t := by
  intro law
  exact ⟨same.hallParts law, fun m mem => ⟨m, same.lots ▸ mem, .refl m⟩⟩

theorem HallAges.refl (s : State) : HallAges s s := (SameHall.refl s).ages

theorem HallFollows.refl (s : State) : HallFollows s s := (HallAges.refl s).follows

/-- A step may be framed by changes outside the hall. -/
theorem HallFollows.framed {s u v t : State} (before : SameHall s u) (h : HallFollows u v) (after : SameHall v t) :
    HallFollows s t := by
  intro law
  obtain ⟨law', from_u⟩ := h (before.hallParts law)
  exact ⟨after.hallParts law', by simpa only [after.lots, before.lots] using from_u⟩

theorem HallAges.then_same {s u t : State} (h : HallAges s u) (after : SameHall u t) : HallAges s t := h.trans after.ages

theorem HallFollows.then_same {s u t : State} (h : HallFollows s u) (after : SameHall u t) : HallFollows s t :=
  .framed (.refl s) h after

/-! ### One lot changed -/

/-- The lots with the new record in place of the one of its serial. -/
def replaceLot (new : Lot) (lots : List Lot) : List Lot := lots.map fun l => if l.serial = new.serial then new else l

theorem replaceLot_replaceLot {a b : Lot} (same : b.serial = a.serial) (lots : List Lot) :
    replaceLot b (replaceLot a lots) = replaceLot b lots := by
  rw [replaceLot, replaceLot, replaceLot, List.map_map]
  refine List.map_congr_left fun l _ => ?_
  by_cases h : l.serial = a.serial <;> simp [h, same]

/-- A record changed in place, as a replacement of the lot. -/
theorem SerialLaw.map_changed {s : State} (h : SerialLaw s) {l : Lot} (mem : l ∈ s.lots) {f : Lot → Lot}
    (serial : (f l).serial = l.serial) :
    (s.lots.map fun x => if x.serial = l.serial then f x else x) = replaceLot (f l) s.lots := by
  refine List.map_congr_left fun x hx => ?_
  by_cases same : x.serial = l.serial
  · rw [h.eq_of_serial_eq hx mem same]
    simp [serial]
  · simp [serial, same]

/-- The queue of t names the lot l as new stands, and every other lot as the queue of s does. -/
structure QueueFits (l new : Lot) (s t : State) : Prop where
  distinct : t.queue.Nodup
  self : l.serial ∈ t.queue ↔ new.ready = true ∧ new.atFront = true
  others : ∀ serial : Nat, serial ≠ l.serial → (serial ∈ t.queue ↔ serial ∈ s.queue)

/-- The claims of t name the lot l as new stands, and every other lot as the claims of s do. -/
structure ClaimsFit (l new : Lot) (s t : State) : Prop where
  list : ClaimListLaw t.claims
  self : l.serial ∈ t.claims.map (·.serial) ↔ new.state = .claimed
  others : ∀ serial : Nat, serial ≠ l.serial → (serial ∈ t.claims.map (·.serial) ↔ serial ∈ s.claims.map (·.serial))
  front : new.state = .claimed → new.atFront = true

/-- t has the lots of s but for l, in whose place it has new. -/
structure LotReplaced (l new : Lot) (s t : State) : Prop where
  mem : l ∈ s.lots
  serial : new.serial = l.serial
  lots : t.lots = replaceLot new s.lots

/-- A condition on every lot after a replacement is one on the new lot and on each other. -/
theorem SerialLaw.forall_replaced {s : State} (h : SerialLaw s) {l new : Lot} (mem : l ∈ s.lots) (serial : new.serial = l.serial)
    {P : Lot → Lot → Prop} (self : P l new) (others : ∀ k ∈ s.lots, k.serial ≠ l.serial → P k k) :
    ∀ k ∈ s.lots, P k (if k.serial = new.serial then new else k) := by
  intro k hk
  rw [serial]
  split
  · next same => exact h.eq_of_serial_eq hk mem same ▸ self
  · next other => exact others k hk other

section
variable {s t : State} {l new : Lot} (r : LotReplaced l new s t)
include r

theorem LotReplaced.mapped : LotsMapped (fun k => if k.serial = new.serial then new else k) s t where
  lots := r.lots
  serial k _ := by
    split
    · next same => exact same.symm
    · rfl

theorem LotReplaced.new_mem : new ∈ t.lots := r.mapped.mem_iff.2 ⟨l, r.mem, by simp [r.serial]⟩

theorem LotReplaced.mem_of_ne {k : Lot} (mem : k ∈ s.lots) (other : k.serial ≠ l.serial) : k ∈ t.lots :=
  r.mapped.mem_iff.2 ⟨k, mem, by simp [r.serial, other]⟩

theorem LotReplaced.mem_cases {k : Lot} (mem : k ∈ t.lots) : k = new ∨ k ∈ s.lots ∧ k.serial ≠ l.serial := by
  obtain ⟨x, hx, rfl⟩ := r.mapped.mem_iff.1 mem
  split
  · exact .inl rfl
  · next other => exact .inr ⟨hx, r.serial ▸ other⟩

/-- The hall keeps its laws when one lot is changed lawfully: the lines and lanes fit it, and the queue and the claims name it as it
now stands and every other lot as before. -/
theorem LotReplaced.hallParts (h : HallParts s) (parameters : SameParameters s t) (law : LotLaw new) (lines : LineLaw t)
    (lanes : LaneLaw t) (queue : QueueFits l new s t) (claims : ClaimsFit l new s t) : HallParts t where
  serials := r.mapped.serialLaw parameters.nextSerial h.serials
  lots := r.mapped.lotLaw (h.serials.forall_replaced r.mem r.serial (P := fun _ k => LotLaw k) law fun k hk _ => h.lots k hk)
  lines := lines
  lanes := lanes
  queue := by
    refine r.mapped.queueLaw queue.distinct ?_ ?_
    · intro serial queued
      by_cases self : serial = l.serial
      · exact ⟨l, r.mem, self.symm⟩
      · obtain ⟨k, hk, same, -⟩ := (h.queue.exact serial).1 ((queue.others serial self).1 queued)
        exact ⟨k, hk, same⟩
    · exact h.serials.forall_replaced r.mem r.serial
        (P := fun k k' => k.serial ∈ t.queue ↔ k'.ready = true ∧ k'.atFront = true) queue.self
        fun k hk other => (queue.others _ other).trans (h.mem_queue_iff hk)
  claims := by
    refine r.mapped.claimLaw claims.list ?_ ?_ ?_
    · intro serial named
      by_cases self : serial = l.serial
      · exact ⟨l, r.mem, self.symm⟩
      · exact h.claims.live serial ((claims.others serial self).1 named)
    · exact h.serials.forall_replaced r.mem r.serial
        (P := fun k k' => k.serial ∈ t.claims.map (·.serial) ↔ k'.state = .claimed) claims.self
        fun k hk other => (claims.others _ other).trans (h.claims.exact k hk)
    · exact h.serials.forall_replaced r.mem r.serial (P := fun _ k' => k'.state = .claimed → k'.atFront = true) claims.front
        fun k hk _ => h.claims.front k hk
  parameters := parameters.parameterLaw h.parameters
  recipes := parameters.recipeLaw h.recipes

/-- Each lot after the replacement is the new one or an earlier one unchanged. -/
theorem LotReplaced.forall_from {R : Lot → Lot → Prop} (refl : ∀ k, R k k) (self : R l new) :
    ∀ m ∈ t.lots, ∃ k ∈ s.lots, R k m := by
  intro m mem
  obtain rfl | ⟨hm, -⟩ := r.mem_cases mem
  · exact ⟨l, r.mem, self⟩
  · exact ⟨m, hm, refl m⟩

/-- A lot that keeps its line, its place, and its being DOSED or VOID leaves the lines' law. -/
theorem LotReplaced.lineLaw (serials : SerialLaw s) (lines : t.lines = s.lines) (line : new.line = l.line)
    (dosed : new.state = .dosed ↔ l.state = .dosed) (void : new.state = .void ↔ l.state = .void) (h : LineLaw s) : LineLaw t :=
  r.mapped.lineLaw lines
    (serials.forall_replaced r.mem r.serial (P := fun k k' => k'.line = k.line) line fun _ _ _ => rfl)
    (serials.forall_replaced r.mem r.serial (P := fun k k' => k'.state = .dosed ↔ k.state = .dosed) dosed fun _ _ _ => .rfl)
    (serials.forall_replaced r.mem r.serial (P := fun k k' => k'.state = .void ↔ k.state = .void) void fun _ _ _ => .rfl) h

/-- A lot that keeps its place leaves the lanes' law. -/
theorem LotReplaced.laneLaw (serials : SerialLaw s) (lanes : ∀ b : Bay, t.lanes[b].lots = s.lanes[b].lots)
    (capacity : ∀ b : Bay, t.lanes[b].capacity = s.lanes[b].capacity) (place : new.place = l.place) (h : LaneLaw s) : LaneLaw t :=
  r.mapped.laneLaw lanes capacity
    (serials.forall_replaced r.mem r.serial (P := fun k k' => k'.place = k.place) place fun _ _ _ => rfl) h

end

/-- A lot in its lane takes the record new, and the queue and the claims follow it; the lines and the lanes stay. -/
structure LaneLotChanged (l new : Lot) (s t : State) : Prop where
  mem : l ∈ s.lots
  serial : new.serial = l.serial := by rfl
  lots : t.lots = replaceLot new s.lots
  parameters : SameParameters s t := by exact {}
  lines : t.lines = s.lines := by rfl
  lanes : ∀ b : Bay, t.lanes[b].lots = s.lanes[b].lots := by exact fun _ => rfl
  standing : l.state.inLane = true
  line : new.line = l.line := by rfl
  place : new.place = l.place := by rfl
  law : LotLaw new
  queue : QueueFits l new s t
  claims : ClaimsFit l new s t

theorem LaneLotChanged.replaced {s t : State} {l new : Lot} (c : LaneLotChanged l new s t) : LotReplaced l new s t :=
  ⟨c.mem, c.serial, c.lots⟩

theorem LotState.not_dosed_of_inLane {a : LotState} (standing : a.inLane = true) : a ≠ .dosed ∧ a ≠ .void := by
  constructor <;> rintro rfl <;> simp [LotState.inLane] at standing

theorem LotState.inLane_of_holdable {a : LotState} (h : a.holdable = true) : a.inLane = true := by
  revert h; cases a <;> decide

theorem LotState.inLane_of_credited {a : LotState} (h : a.credited = true) : a.inLane = true := by
  revert h; cases a <;> decide

theorem LotState.ne_claimed_of_holdable {a : LotState} (h : a.holdable = true) : a ≠ .claimed := by
  revert h; cases a <;> decide

theorem LaneLotChanged.hallParts {s t : State} {l new : Lot} (c : LaneLotChanged l new s t) (h : HallParts s) : HallParts t := by
  have standing : new.state.inLane = true := by
    rw [← c.law.placed, c.place, (h.lots l c.mem).placed, c.standing]
  obtain ⟨undosed, unvoid⟩ := LotState.not_dosed_of_inLane c.standing
  obtain ⟨undosed', unvoid'⟩ := LotState.not_dosed_of_inLane standing
  have r := c.replaced
  exact r.hallParts h c.parameters c.law
    (r.lineLaw h.serials c.lines c.line (iff_of_false undosed' undosed) (iff_of_false unvoid' unvoid) h.lines)
    (r.laneLaw h.serials c.lanes c.parameters.capacity c.place h.lanes) c.queue c.claims

theorem LaneLotChanged.aged {s t : State} {l new : Lot} (c : LaneLotChanged l new s t) (h : HallParts s) (ages : l.Ages new) :
    HallParts t ∧ ∀ m ∈ t.lots, ∃ k ∈ s.lots, k.Ages m :=
  ⟨c.hallParts h, c.replaced.forall_from .refl ages⟩

/-! ### The queue and the claims about one lot -/

section
variable {s t : State} (h : HallParts s) {l new : Lot} (mem : l ∈ s.lots)
include h

include mem in
/-- The queue stays, and the lot is as ready as it was. -/
theorem QueueFits.kept (place : new.place = l.place) (queue : t.queue = s.queue)
    (ready : l.atFront = true → (new.ready = true ↔ l.ready = true)) : QueueFits l new s t where
  distinct := queue ▸ h.queue.distinct
  self := by
    rw [queue, h.mem_queue_iff mem, Lot.atFront_congr place]
    exact ⟨fun ⟨r, f⟩ => ⟨(ready f).2 r, f⟩, fun ⟨r, f⟩ => ⟨(ready f).1 r, f⟩⟩
  others _ _ := by rw [queue]

/-- The lot leaves the queue (R109), and is not ready. -/
theorem QueueFits.left (queue : t.queue = s.queue.filter (· ≠ l.serial)) (unready : new.ready = false) : QueueFits l new s t where
  distinct := queue ▸ h.queue.distinct.filter _
  self := by simp [queue, unready]
  others serial other := by simp [queue, other]

/-- The lot joins the queue's tail (R108), ready and at the front. -/
theorem QueueFits.joined (queue : t.queue = (joinTail l.serial s).queue) (ready : new.ready = true)
    (front : new.atFront = true) : QueueFits l new s t where
  distinct := queue ▸ joinTail_nodup s h.queue.distinct
  self := by simp [queue, mem_joinTail, ready, front]
  others serial other := by simp [queue, mem_joinTail, other]

/-- The lot joins the queue's head (R110), ready and at the front. -/
theorem QueueFits.rejoined (queue : t.queue = l.serial :: s.queue) (absent : l.serial ∉ s.queue) (ready : new.ready = true)
    (front : new.atFront = true) : QueueFits l new s t where
  distinct := queue ▸ List.nodup_cons.2 ⟨absent, h.queue.distinct⟩
  self := by simp [queue, ready, front]
  others serial other := by simp [queue, other]

include mem in
/-- The claims stay, and the lot is CLAIMED as it was. -/
theorem ClaimsFit.kept (place : new.place = l.place) (claims : t.claims = s.claims)
    (state : new.state = .claimed ↔ l.state = .claimed) : ClaimsFit l new s t where
  list := claims ▸ h.claims.list
  self := by rw [claims, h.claims.exact l mem, state]
  others _ _ := by rw [claims]
  front claimed := Lot.atFront_congr place ▸ h.claims.front l mem (state.1 claimed)

/-- The lot's claim ends, and it is not CLAIMED. -/
theorem ClaimsFit.ended (claims : t.claims = s.claims.filter (·.serial ≠ l.serial)) (unclaimed : new.state ≠ .claimed) :
    ClaimsFit l new s t where
  list := claims ▸ h.claims.list.sublist List.filter_sublist
  self := by rw [claims, mem_serials_filter_ne]; simp [unclaimed]
  others serial other := by rw [claims, mem_serials_filter_ne]; simp [other]
  front claimed := absurd claimed unclaimed

end

end Sys2Proof.Machine
end

section
/-! ## Changes outside the hall

What the attention unit, the link interface, pour control's halt filter and the time base change is none of the fields that the laws
of the hall name. -/

namespace Sys2Proof.Machine

open Sys2Proof

variable (s : State)

theorem same_raiseFor (who : Station → Bool) (k : AttnKind) : SameHall s (raiseFor who k s) := {}

theorem same_raise (st : Station) (k : AttnKind) : SameHall s (raise st k s) := {}

theorem same_reportCondition (k : AttnKind) (value : Bool) : SameHall s (reportCondition k value s) := by
  cases value <;> exact {}

theorem same_reportHalt : SameHall s (reportHalt s) := same_reportCondition s _ _
theorem same_reportStale : SameHall s (reportStale s) := same_reportCondition s _ _
theorem same_reportTime : SameHall s (reportTime s) := same_reportCondition s _ _
theorem same_reportQueue : SameHall s (reportQueue s) := same_reportCondition s _ _
theorem same_reportOverdue : SameHall s (reportOverdue s) := same_reportCondition s _ _
theorem same_reportRejected : SameHall s (reportRejected s) := same_reportCondition s _ _

theorem same_registerHalt (level : Bool) : SameHall s (registerHalt level s) := {}

theorem same_stopPart (phase : Phase) : SameHall s (stopPart phase s) := {}

theorem same_beginStart (cause : StartCause) : SameHall s (beginStart cause s) := {}

theorem same_setInbox (st : Station) (frame : Option (List Byte)) : SameHall s (setInbox st frame s) := {}

theorem same_replaceWaiting (st : Station) (data : List Byte) : SameHall s (replaceWaiting st data s) := {}

theorem same_placeAnswer (st : Station) (code : Byte) (t : Taken) : SameHall t.state (placeAnswer st code t) := {}

theorem same_clearAnswer (st : Station) : SameHall s (clearAnswer st s) := {}

theorem same_endAttempt (i : SlotNo) (fall : ErrorFall) (straps : Straps) : SameHall s (endAttempt i fall straps s) := {}

theorem same_failAttempt : SameHall s (failAttempt s) := by
  unfold failAttempt
  split <;> exact {}

theorem same_sufferBusError (tecRise recRise : Nat) : SameHall s (sufferBusError tecRise recRise s) :=
  (same_failAttempt s).trans {}

theorem same_requestStanding (k : StandingNo) : SameHall s (requestStanding k s) := by
  unfold requestStanding
  split <;> exact {}

/-- A lane's record may take another lock, reading or stale mark. -/
theorem same_setLane {b : Bay} {lane : Lane} (lots : lane.lots = s.lanes[b].lots) (capacity : lane.capacity = s.lanes[b].capacity) :
    SameHall s (setLane b lane s) :=
  { capacity := by
      intro c
      rw [setLane_lanes_get]
      split
      · next same => rw [same, capacity]
      · rfl
    lanes := by
      intro c
      rw [setLane_lanes_get]
      split
      · next same => rw [same, lots]
      · rfl }

/-- Every lane may take another reading and stale mark. -/
theorem same_lanes {f : Lane → Lane} (lots : ∀ lane, (f lane).lots = lane.lots) (capacity : ∀ lane, (f lane).capacity = lane.capacity) :
    SameHall s { s with lanes := Vector.ofFn fun b : Bay => f s.lanes[b] } :=
  { capacity := by simp [capacity], lanes := by simp [lots] }

theorem same_judgeLanes : SameHall s (judgeLanes s) := same_lanes s (fun _ => rfl) fun _ => rfl

theorem same_takeReading (b : Bay) (t : Int) : SameHall s (takeReading b t s) := by
  unfold takeReading
  split
  · exact (same_setLane s (b := b) (lane := s.lanes[b].withReading t) rfl rfl).trans (same_reportStale _)
  · exact same_raiseFor s _ _

theorem same_loseUnretained : SameHall s (loseUnretained s) :=
  (same_lanes s (f := Lane.withoutReading) (fun _ => rfl) fun _ => rfl).trans {}

theorem same_reportStart (voided : Line → Bool) : SameHall s (reportStart voided s) :=
  (same_raiseFor s (fun _ => true) .restarted).trans <| (same_raiseFor _ _ _).trans <| (same_reportHalt _).trans <|
    (same_reportStale _).trans <| (same_reportTime _).trans <| (same_reportQueue _).trans <| (same_reportOverdue _).trans <|
    same_reportRejected _

theorem same_sampleHalt : SameHall s (sampleHalt s) := {}

theorem same_enterService : SameHall s (enterService s) := {}

/-- What completes a start after its warm or cold actions changes nothing of the hall. -/
theorem same_startCompleted (voided : Line → Bool) : SameHall s (enterService (reportStart voided (sampleHalt s))) :=
  (same_sampleHalt s).trans <| (same_reportStart _ voided).trans <| same_enterService _

end Sys2Proof.Machine
end

section
/-! ## The quality interventions and the claims (R110 to R117, R128 to R135) -/

namespace Sys2Proof.Machine

open Sys2Proof

/-- The end of a claim commutes with changes outside the hall. -/
theorem SameHall.removeClaim {s t : State} (h : SameHall s t) (serial : Nat) :
    SameHall (removeClaim serial s) (removeClaim serial t) :=
  { h with claims := by simp only [Machine.removeClaim, h.claims] }

section
variable {s : State} {l : Lot} (mem : l ∈ s.lots)
include mem

/-- R128: the lot is held and leaves the queue. -/
theorem holdLot_ages (state : l.state.holdable = true) : HallAges s (holdLot l.serial s) := by
  refine .then_same (fun h => ?_) (same_reportQueue _)
  refine LaneLotChanged.aged (l := l) (new := l.withHold (some .supervisor)) ?_ h (l.ages_withHold _)
  exact
    { mem := mem
      lots := h.serials.map_changed mem rfl
      standing := LotState.inLane_of_holdable state
      law := (h.lots l mem).restate rfl (fun _ => state) (h.lots l mem).cured
      queue := .left h rfl (by simp [Lot.ready])
      claims := .kept h mem rfl rfl .rfl }

/-- R129: the CLAIMED lot is CURED again and held, and its claim is revoked. -/
theorem holdClaimed_ages (state : l.state = .claimed) : HallAges s (holdClaimed l.serial s) := by
  refine .then_same (u := removeClaim l.serial _) (fun h => ?_) (same_raise _ _ _)
  refine LaneLotChanged.aged (l := l) (new := (l.withState .cured).withHold (some .supervisor)) ?_ h
    ((Lot.ages_withState (by simp [state, LotState.reaches])).trans (Lot.ages_withHold _ _))
  exact
    { mem := mem
      lots := h.serials.map_changed mem rfl
      standing := by simp [state, LotState.inLane]
      law := (h.lots l mem).restate (by simp [state, LotState.inLane]) (fun _ => rfl) fun _ => (h.lots l mem).cured (.inr state)
      queue := .kept h mem rfl rfl fun _ => by simp [Lot.ready, state]
      claims := .ended h rfl (by simp) }

/-- R130: the hold ends, and a CURED front lot joins the queue. -/
theorem unholdLot_ages (state : l.state.holdable = true) (held : l.hold ≠ none) : HallAges s (unholdLot l s) := by
  have unready : ¬ l.ready = true := by simp [Lot.ready, held]
  have law (h : HallParts s) : LotLaw (l.withHold none) := (h.lots l mem).restate rfl (absurd rfl) (h.lots l mem).cured
  unfold unholdLot
  split
  case isTrue joins =>
    obtain ⟨cured, front⟩ : l.state = .cured ∧ l.atFront = true := by simpa using joins
    refine .then_same (fun h => ?_) (same_reportQueue _)
    refine LaneLotChanged.aged (l := l) (new := l.withHold none) ?_ h (l.ages_withHold _)
    exact
      { mem := mem
        lots := h.serials.map_changed mem rfl
        standing := LotState.inLane_of_holdable state
        law := law h
        queue := .joined h rfl (by simp [Lot.ready, cured]) front
        claims := .kept h mem rfl rfl .rfl }
  case isFalse stays =>
    intro h
    refine LaneLotChanged.aged (l := l) (new := l.withHold none) ?_ h (l.ages_withHold _)
    have unready' (front : l.atFront = true) : ¬ (l.withHold none).ready = true := by
      intro ready
      have cured : l.state = .cured := (Lot.ready_iff.1 ready).1
      exact stays (by simp [cured, front])
    exact
      { mem := mem
        lots := h.serials.map_changed mem rfl
        standing := LotState.inLane_of_holdable state
        law := law h
        queue := .kept h mem rfl rfl fun front => iff_of_false (unready' front) unready
        claims := .kept h mem rfl rfl .rfl }

/-- R133: the lot is REJECTED in its lane, out of the queue, its claim revoked. -/
theorem rejectLot_ages (state : l.state.credited = true) : HallAges s (rejectLot l s) := by
  have reached : LotState.rejected ∈ l.state.reaches := by
    revert state; cases l.state <;> decide
  have ages : l.Ages ((l.withState .rejected).withHold none) := (Lot.ages_withState reached).trans (Lot.ages_withHold _ _)
  have law (h : HallParts s) : LotLaw ((l.withState .rejected).withHold none) :=
    (h.lots l mem).restate (LotState.inLane_of_credited state).symm (absurd rfl) (by simp)
  have unqueued := same_reportQueue (leaveQueue l.serial (changeLot l.serial (fun x => (x.withState .rejected).withHold none) s))
  have overdue (u : State) : SameHall u (if l.state = .overdue then reportOverdue u else u) := by
    split
    · exact same_reportOverdue u
    · exact .refl u
  have front (u : State) : SameHall u (if l.atFront = true then reportRejected u else u) := by
    split
    · exact same_reportRejected u
    · exact .refl u
  refine .then_same (.then_same ?_ (front _)) (overdue _)
  split
  case isTrue claimed =>
    refine .then_same (fun h => ?_) ((unqueued.removeClaim l.serial).trans (same_raise _ _ _))
    refine LaneLotChanged.aged (l := l) ?_ h ages
    exact
      { mem := mem
        lots := h.serials.map_changed mem rfl
        standing := LotState.inLane_of_credited state
        law := law h
        queue := .left h rfl (by simp [Lot.ready])
        claims := .ended h rfl (by simp) }
  case isFalse unclaimed =>
    refine .then_same (fun h => ?_) unqueued
    refine LaneLotChanged.aged (l := l) ?_ h ages
    exact
      { mem := mem
        lots := h.serials.map_changed mem rfl
        standing := LotState.inLane_of_credited state
        law := law h
        queue := .left h rfl (by simp [Lot.ready])
        claims := .kept h mem rfl rfl (by simp [unclaimed]) }

/-- R135: the lot is CURING again with a later maximum age. -/
theorem extendLot_ages (state : l.state = .curing ∨ l.state = .overdue) (minutes : Nat) :
    HallAges s (extendLot l minutes s) := by
  have overdue (u : State) : SameHall u (if l.state = .overdue then reportOverdue u else u) := by
    split
    · exact same_reportOverdue u
    · exact .refl u
  refine .then_same (u := changeLot l.serial (Lot.extendedBy minutes) s) (fun h => ?_) (overdue _)
  have law := h.lots l mem
  have standing : l.state.inLane = true := by rcases state with e | e <;> simp [e, LotState.inLane]
  have ages : l.Ages (l.extendedBy minutes) :=
    { grows := ⟨rfl, le_satAdd law.maxAge _, le_rfl, le_rfl, le_rfl, le_rfl, le_satAdd law.extensions _, fun _ => rfl, id, id⟩
      state := by rcases state with e | e <;> simp [e, Lot.extendedBy, LotState.reaches] }
  refine LaneLotChanged.aged (l := l) ?_ h ages
  exact
    { mem := mem
      lots := h.serials.map_changed mem rfl
      standing := standing
      law :=
        { law with
          placed := law.placed.trans standing
          holdable := fun _ => rfl
          fresh := nofun
          maxAge := satAdd_le _ _ _
          extensions := satAdd_le _ _ _
          extended := by simp [Lot.extendedBy, satAdd]
          cured := by simp [Lot.extendedBy] }
      queue := .kept h mem rfl rfl fun _ => by rcases state with e | e <;> simp [Lot.ready, Lot.extendedBy, e]
      claims := .kept h mem rfl rfl (by rcases state with e | e <;> simp [Lot.extendedBy, e]) }

/-- R110: the claim's lot is CURED again at the queue's head. -/
theorem returnClaim_ages (state : l.state = .claimed) : HallAges s (returnClaim l.serial s) := by
  intro h
  have law := h.lots l mem
  have unheld : l.hold = none := law.hold_eq_none (by simp [state, LotState.holdable])
  have ages : l.Ages (l.withState .cured) := Lot.ages_withState (by simp [state, LotState.reaches])
  refine LaneLotChanged.aged (l := l) ?_ h ages
  exact
    { mem := mem
      lots := h.serials.map_changed mem rfl
      standing := by simp [state, LotState.inLane]
      law := law.restate (st := .cured) (r := l.hold) (by simp [state, LotState.inLane]) (by simp [unheld]) fun _ => law.cured (.inr state)
      queue := .rejoined h rfl (by simp [h.mem_queue_iff mem, Lot.ready, state]) (by simp [Lot.ready, unheld])
        (h.claims.front l mem state)
      claims := .ended h rfl (by simp) }

end

end Sys2Proof.Machine
end

section
/-! ## Claiming and the claim timers (R113, R114) -/

namespace Sys2Proof.Machine

open Sys2Proof

/-- R113: the lot at the queue's head is CLAIMED, and its claim is appended. -/
theorem claimHead_follows {s : State} {serial truck : Nat} {rest : List Nat} (head : s.queue = serial :: rest)
    (room : s.claims.length < Config.maxClaims) (known : 1 ≤ truck ∧ truck ≤ 65535)
    (free : truck ∉ s.claims.map (·.truck)) : HallFollows s (claimHead serial truck s) := by
  refine .then_same (fun h => ?_) (same_reportQueue _)
  obtain ⟨l, mem, rfl, ready, front⟩ := (h.queue.exact serial).1 (head ▸ List.mem_cons_self)
  obtain ⟨cured, unheld⟩ := Lot.ready_iff.1 ready
  have law := h.lots l mem
  have unclaimed : l.serial ∉ s.claims.map (·.serial) := by simp [h.claims.exact l mem, cured]
  obtain ⟨absent, distinct⟩ := List.nodup_cons.1 (head ▸ h.queue.distinct)
  have timeout := h.parameters.claimTimeout
  have c : LaneLotChanged l (l.withState .claimed) s
      { s with
        queue := s.queue.tail
        lots := s.lots.map fun x => if x.serial = l.serial then x.withState .claimed else x
        claims := s.claims ++ [⟨l.serial, truck, s.claimTimeout⟩] } :=
    { mem := mem
      lots := h.serials.map_changed mem rfl
      standing := by simp [cured, LotState.inLane]
      law := law.restate (st := .claimed) (r := l.hold) (by simp [cured, LotState.inLane]) (absurd unheld) fun _ =>
        law.cured (.inl cured)
      queue :=
        { distinct := by simpa [head] using distinct
          self := by simp [head, absent, Lot.ready]
          others := fun other ne => by simp [head, ne] }
      claims :=
        { list :=
            { atMost := by simpa using room
              trucks := by simpa [List.nodup_append, h.claims.list.trucks] using free
              serials := by simpa [List.nodup_append, h.claims.list.serials] using unclaimed
              run := by
                intro c hc
                rcases List.mem_append.1 hc with old | new
                · exact h.claims.list.run c old
                · obtain rfl : c = _ := List.mem_singleton.1 new
                  exact ⟨by dsimp only; omega, timeout.2, known⟩ }
          self := by simp
          others := fun other ne => by simp [ne]
          front := fun _ => front } }
  have follows : l.Follows (l.withState .claimed) :=
    ⟨⟨rfl, le_rfl, le_rfl, le_rfl, le_rfl, le_rfl, le_rfl, id, id, id⟩, .inr (by simp [cured, stateRows])⟩
  exact ⟨c.hallParts h, fun m hm => .inl (c.replaced.forall_from .refl follows m hm)⟩

/-! ### The claim timers -/

/-- The claims that expire, ended one after another, leave the others. -/
theorem foldr_expireClaim_claims (ended : List Claim) (s : State) :
    (ended.foldr expireClaim s).claims = s.claims.filter fun c => c.serial ∉ ended.map (·.serial) := by
  induction ended with
  | nil => simp
  | cons c rest ih =>
    simp only [List.foldr_cons, expireClaim, raise_claims, returnClaim_eq, ih, List.filter_filter]
    refine List.filter_congr fun x _ => ?_
    simp

theorem foldr_expireClaim_ages {s : State} (ended : List Claim) (sub : ended.Sublist s.claims) :
    HallAges s (ended.foldr expireClaim s) := by
  induction ended with
  | nil => exact .refl s
  | cons c rest ih =>
    intro h
    have sub_rest : rest.Sublist s.claims := (List.sublist_cons_self c rest).trans sub
    obtain ⟨law, aged⟩ := ih sub_rest h
    have others : c.serial ∉ rest.map (·.serial) :=
      (List.nodup_cons.1 (List.map_cons ▸ h.claims.list.serials.sublist (sub.map _))).1
    have named : c.serial ∈ (rest.foldr expireClaim s).claims.map (·.serial) := by
      refine List.mem_map_of_mem ?_
      rw [foldr_expireClaim_claims, List.mem_filter]
      exact ⟨sub.mem List.mem_cons_self, by simpa using others⟩
    obtain ⟨l, mem, serial⟩ := law.claims.live _ named
    have claimed : l.state = .claimed := (law.claims.exact l mem).1 (serial ▸ named)
    have last : HallAges (rest.foldr expireClaim s) (expireClaim c (rest.foldr expireClaim s)) :=
      .then_same (serial ▸ returnClaim_ages mem claimed) (same_raise _ _ _)
    exact (HallAges.trans (ih sub_rest) last) h

/-- R114: the claims at their last second expire. -/
theorem expireClaims_ages (s : State) : HallAges s (expireClaims s) :=
  .then_same (foldr_expireClaim_ages _ List.filter_sublist) (same_reportQueue _)

/-- After the expiries no claim is at its last second. -/
theorem expireClaims_not_ends {s : State} {c : Claim} (mem : c ∈ (expireClaims s).claims) : c.ends = false := by
  rw [expireClaims, reportQueue_claims, foldr_expireClaim_claims, List.mem_filter] at mem
  obtain ⟨hc, others⟩ := mem
  by_contra ends
  simp only [Bool.not_eq_false] at ends
  simp only [List.mem_map, List.mem_filter, not_exists, not_and, decide_eq_true_eq] at others
  exact others c ⟨hc, ends⟩ rfl

/-- Claims with more than a second left run down by one. -/
theorem countClaims_ages {s : State} (running : ∀ c ∈ s.claims, c.ends = false) : HallAges s (countClaims s) := by
  intro h
  have serials : (countClaims s).claims.map (·.serial) = s.claims.map (·.serial) := by simp [countClaims, Function.comp_def]
  have trucks : (countClaims s).claims.map (·.truck) = s.claims.map (·.truck) := by simp [countClaims, Function.comp_def]
  refine ⟨h.congr rfl rfl rfl (h.lines.congr rfl rfl) (h.lanes.congr rfl (fun _ => rfl) h.lanes.room) ?_
    (SameParameters.parameterLaw {} h.parameters) h.recipes, fun m hm => ⟨m, hm, .refl m⟩⟩
  exact
    { list :=
        { atMost := by simpa [countClaims] using h.claims.list.atMost
          trucks := trucks ▸ h.claims.list.trucks
          serials := serials ▸ h.claims.list.serials
          run := by
            intro c hc
            obtain ⟨d, hd, rfl⟩ := List.mem_map.1 hc
            have more := running d hd
            simp only [Claim.ends, decide_eq_false_iff_not] at more
            obtain ⟨_, atMost, truck⟩ := h.claims.list.run d hd
            exact ⟨by dsimp only; omega, by dsimp only; omega, truck⟩ }
      exact := by rw [serials]; exact h.claims.exact
      live := by rw [serials]; exact h.claims.live
      front := h.claims.front }

theorem runClaims_ages (s : State) : HallAges s (runClaims s) := by
  unfold runClaims
  split
  case isTrue _ => exact (expireClaims_ages s).trans (countClaims_ages fun _ => expireClaims_not_ends)
  case isFalse running =>
    refine countClaims_ages fun c hc => ?_
    simp only [List.any_eq_true, not_exists, not_and, Bool.not_eq_true] at running
    exact running c hc

end Sys2Proof.Machine
end

section
/-! ## The lines' law when one line changes (R54, R56) -/

namespace Sys2Proof.Machine

open Sys2Proof

/-- The two states of a lot that a line holds. -/
theorem LotState.inLane_eq_false {a : LotState} : a.inLane = false ↔ a = .dosed ∨ a = .void := by cases a <;> decide

/-- The line of a DOSED or VOID lot names it. -/
theorem LineLaw.serial_of_line {s : State} (h : LineLaw s) {l : Lot} (mem : l ∈ s.lots) (state : l.state.inLane = false) :
    s.lines[l.line].serial = some l.serial := by
  obtain ⟨dosed, void⟩ := h.ofLots l mem
  rcases LotState.inLane_eq_false.1 state with e | e
  · obtain ⟨remaining, warning, record⟩ := dosed e
    rw [record]; rfl
  · rw [void e]; rfl

/-- A line holds one lot. -/
theorem LineLaw.serial_unique {s : State} (h : LineLaw s) {k l : Lot} (hk : k ∈ s.lots) (hl : l ∈ s.lots)
    (k_state : k.state.inLane = false) (l_state : l.state.inLane = false) (line : k.line = l.line) : k.serial = l.serial := by
  have k_named := h.serial_of_line hk k_state
  have l_named := h.serial_of_line hl l_state
  simp only [line, l_named, Option.some.injEq] at k_named
  exact k_named.symm

/-- The record that names a lot. -/
theorem LineLaw.exists_of_dosed {s : State} (h : LineLaw s) {n : Line} {serial remaining warning : Nat}
    (record : s.lines[n] = .dosed serial remaining warning) :
    (1 ≤ remaining ∧ remaining ≤ 5400 ∧ warning ≤ 5399) ∧ ∃ l ∈ s.lots, l.serial = serial ∧ l.state = .dosed ∧ l.line = n := by
  have names := h.names n
  rwa [record] at names

theorem LineLaw.exists_of_void {s : State} (h : LineLaw s) {n : Line} {serial : Nat} (record : s.lines[n] = .void serial) :
    ∃ l ∈ s.lots, l.serial = serial ∧ l.state = .void ∧ l.line = n := by
  have names := h.names n
  rwa [record] at names

theorem lotOfLine_of_inLane {s : State} {l : Lot} (standing : l.state.inLane = true) : LotOfLine s l := by
  obtain ⟨undosed, unvoid⟩ := LotState.not_dosed_of_inLane standing
  exact ⟨fun e => absurd e undosed, fun e => absurd e unvoid⟩

/-- One line takes another record: the law stays when the record and the line's own lots fit each other, and the DOSED and VOID lots
of the other lines are those of before. -/
theorem LineLaw.setLine {s t : State} (h : LineLaw s) {n : Line} {r : LineRecord}
    (lines : ∀ m : Line, t.lines[m] = if m = n then r else s.lines[m]) (named : LineNames t n r)
    (own : ∀ k ∈ t.lots, k.line = n → LotOfLine t k)
    (kept : ∀ k ∈ s.lots, k.line ≠ n → k.state.inLane = false → k ∈ t.lots)
    (known : ∀ k ∈ t.lots, k.line ≠ n → k.state.inLane = false → k ∈ s.lots) : LineLaw t where
  names m := by
    rw [lines]
    split
    case isTrue same => exact same ▸ named
    case isFalse other =>
      cases record : s.lines[m] with
      | idle => trivial
      | dosed serial remaining warning =>
        obtain ⟨range, l, hl, serial, state, rfl⟩ := h.exists_of_dosed record
        exact ⟨range, l, kept l hl other (by simp [state, LotState.inLane]), serial, state, rfl⟩
      | void serial =>
        obtain ⟨l, hl, serial, state, rfl⟩ := h.exists_of_void record
        exact ⟨l, kept l hl other (by simp [state, LotState.inLane]), serial, state, rfl⟩
  ofLots k mem := by
    by_cases line : k.line = n
    · exact own k mem line
    · cases state : k.state.inLane with
      | true => exact lotOfLine_of_inLane state
      | false =>
        have old := h.ofLots k (known k mem line state)
        have same : t.lines[k.line] = s.lines[k.line] := by rw [lines, if_neg line]
        simpa only [LotOfLine, same] using old

/-- A running window counts down (R56). -/
theorem setLine_countdown_ages {s : State} {n : Line} {serial remaining remaining' warning : Nat}
    (record : s.lines[n] = .dosed serial remaining warning) (runs : 1 ≤ remaining') (less : remaining' ≤ remaining) :
    HallAges s (setLine n (.dosed serial remaining' warning) s) := by
  intro h
  obtain ⟨range, l, hl, serial_eq, state, line⟩ := h.lines.exists_of_dosed record
  have lines : LineLaw (setLine n (.dosed serial remaining' warning) s) := by
    refine h.lines.setLine (fun m => setLine_lines_get s n m _) ⟨⟨runs, by omega, range.2.2⟩, l, hl, serial_eq, state, line⟩ ?_
      (fun k hk _ _ => hk) (fun k hk _ _ => hk)
    rintro k hk rfl
    obtain ⟨dosed, void⟩ := h.lines.ofLots k hk
    refine ⟨fun e => ?_, fun e => ?_⟩
    · obtain ⟨_, _, named⟩ := dosed e
      rw [record, LineRecord.dosed.injEq] at named
      exact ⟨remaining', warning, by rw [setLine_lines_get, if_pos rfl, named.1]⟩
    · exact absurd (record.symm.trans (void e)) nofun
  exact ⟨h.congr rfl rfl rfl lines (h.lanes.congr rfl (fun _ => rfl) h.lanes.room) (h.claims.congr rfl rfl)
    (SameParameters.parameterLaw {} h.parameters) h.recipes, fun m hm => ⟨m, hm, .refl m⟩⟩

end Sys2Proof.Machine
end

section
/-! ## Serials (R5, R6) -/

namespace Sys2Proof.Machine

open Sys2Proof

theorem nextAfter_inRange {serial : Nat} (h : serial ≤ Config.maxSerial) :
    1 ≤ nextAfter serial ∧ nextAfter serial ≤ Config.maxSerial := by
  simp only [nextAfter, Config.maxSerial] at h ⊢
  split <;> omega

/-- The candidates run round the range of serials (R6). -/
theorem iterate_nextAfter {start : Nat} (low : 1 ≤ start) (high : start ≤ Config.maxSerial) (j : Nat) :
    nextAfter^[j] start = (start - 1 + j) % Config.maxSerial + 1 := by
  simp only [Config.maxSerial] at high ⊢
  induction j with
  | zero =>
    rw [Function.iterate_zero_apply]
    omega
  | succ j ih =>
    rw [Function.iterate_succ_apply', ih]
    simp only [nextAfter, Config.maxSerial]
    split <;> omega

theorem iterate_nextAfter_inRange {start : Nat} (low : 1 ≤ start) (high : start ≤ Config.maxSerial) (j : Nat) :
    1 ≤ nextAfter^[j] start ∧ nextAfter^[j] start ≤ Config.maxSerial := by
  rw [iterate_nextAfter low high]
  simp only [Config.maxSerial]
  omega

/-- Fewer candidates than serials exist differ. -/
theorem nodup_candidates {start : Nat} (low : 1 ≤ start) (high : start ≤ Config.maxSerial) {n : Nat} (few : n ≤ Config.maxSerial) :
    ((List.range n).map fun j => nextAfter^[j] start).Nodup := by
  refine List.Nodup.map_on (fun i hi j hj same => ?_) List.nodup_range
  rw [iterate_nextAfter low high, iterate_nextAfter low high] at same
  rw [List.mem_range] at hi hj
  simp only [Config.maxSerial] at few same
  omega

/-- The search passes over live serials alone, and stops early only at a free one (R6). -/
theorem freeSerial_passes (live : List Nat) (fuel candidate : Nat) :
    ∃ passed ≤ fuel, freeSerial live fuel candidate = nextAfter^[passed] candidate
      ∧ (∀ j < passed, nextAfter^[j] candidate ∈ live) ∧ (passed < fuel → nextAfter^[passed] candidate ∉ live) := by
  induction fuel generalizing candidate with
  | zero => exact ⟨0, le_rfl, rfl, nofun, nofun⟩
  | succ fuel ih =>
    by_cases taken : candidate ∈ live
    · obtain ⟨passed, atMost, found, before, stops⟩ := ih (nextAfter candidate)
      refine ⟨passed + 1, by omega, by simpa [freeSerial, taken] using found, ?_, fun early => stops (by omega)⟩
      rintro (_ | j) hj
      · exact taken
      · exact before j (by omega)
    · exact ⟨0, by omega, by simp [freeSerial, taken], nofun, fun _ => taken⟩

/-- With no more live serials than candidates, the search ends at a free serial. -/
theorem freeSerial_free {live : List Nat} {start : Nat} (low : 1 ≤ start) (high : start ≤ Config.maxSerial)
    (few : live.length < Config.maxSerial) :
    ∃ passed ≤ live.length, freeSerial live live.length start = nextAfter^[passed] start
      ∧ (∀ j < passed, nextAfter^[j] start ∈ live) ∧ nextAfter^[passed] start ∉ live := by
  obtain ⟨passed, atMost, found, before, stops⟩ := freeSerial_passes live live.length start
  refine ⟨passed, atMost, found, before, ?_⟩
  rcases atMost.lt_or_eq with early | all
  · exact stops early
  · intro taken
    have distinct := nodup_candidates low high (n := passed + 1) (by omega)
    have within : ((List.range (passed + 1)).map fun j => nextAfter^[j] start) ⊆ live := by
      intro serial mem
      obtain ⟨j, hj, rfl⟩ := List.mem_map.1 mem
      rcases (Nat.lt_succ_iff.1 (List.mem_range.1 hj)).lt_or_eq with less | rfl
      · exact before j less
      · exact taken
    have crowded := (List.subperm_of_subset distinct within).length_le
    simp only [List.length_map, List.length_range] at crowded
    omega

theorem lot?_eq_none_iff_not_mem {s : State} {serial : Nat} : s.lot? serial = none ↔ serial ∉ s.lots.map (·.serial) := by
  rw [lot?_eq_none]
  simp

/-- The serial of the next lot: in range, held by no live lot, and the first such from the counter on (R6). -/
theorem SerialLaw.allocated {s : State} (h : SerialLaw s) :
    ∃ passed ≤ s.lots.length, s.allocated = nextAfter^[passed] s.nextSerial
      ∧ (∀ j < passed, s.lot? (nextAfter^[j] s.nextSerial) ≠ none) ∧ s.lot? s.allocated = none := by
  have few : (s.lots.map (·.serial)).length < Config.maxSerial := by
    have atMost := h.atMost
    simp only [List.length_map, Config.lotRecords, Config.maxSerial] at atMost ⊢
    omega
  obtain ⟨passed, atMost, found, before, free⟩ := freeSerial_free h.counter.1 h.counter.2 few
  rw [List.length_map] at atMost found
  refine ⟨passed, atMost, found, fun j hj => ?_, ?_⟩
  · rw [ne_eq, lot?_eq_none_iff_not_mem, not_not]
    exact before j hj
  · rw [lot?_eq_none_iff_not_mem, State.allocated, found]
    exact free

theorem SerialLaw.allocated_inRange {s : State} (h : SerialLaw s) : 1 ≤ s.allocated ∧ s.allocated ≤ Config.maxSerial := by
  obtain ⟨passed, -, found, -⟩ := h.allocated
  rw [found]
  exact iterate_nextAfter_inRange h.counter.1 h.counter.2 passed

/-- Settles O9: the search for a serial passes over live serials alone, and more candidates than live lots exist. -/
theorem serialsNameLots : Obligations.SerialsNameLots := by
  intro s law
  refine ⟨fun l mem => law.lot?_serial mem, fun serial => lot?_eq_none s, fun room => ?_, rfl, fun n less => ?_⟩
  · obtain ⟨passed, atMost, found, before, free⟩ := law.allocated
    exact ⟨law.allocated_inRange, free, passed, by omega, found, before⟩
  · simp [nextAfter, Config.maxSerial, less]

end Sys2Proof.Machine
end

section
/-! ## Voided doses and the pour windows (R56, R57, R63) -/

namespace Sys2Proof.Machine

open Sys2Proof

/-- The other lots of a DOSED or VOID lot's line stand in lanes. -/
theorem LineLaw.inLane_of_ne {s : State} (h : LineLaw s) {k l : Lot} (hk : k ∈ s.lots) (hl : l ∈ s.lots)
    (l_state : l.state.inLane = false) (line : k.line = l.line) (other : k.serial ≠ l.serial) : k.state.inLane = true := by
  by_contra k_state
  exact other (h.serial_unique hk hl (by simpa using k_state) l_state line)

/-- The line of a lot takes another record with the lot, which it held: the law stays when the new record and the lot fit. -/
theorem LotReplaced.lineLaw_setLine {s t : State} {l new : Lot} (r : LotReplaced l new s t) (serials : SerialLaw s)
    (h : LineLaw s) (state : l.state.inLane = false) (line : new.line = l.line) {record : LineRecord}
    (lines : ∀ m : Line, t.lines[m] = if m = l.line then record else s.lines[m]) (named : LineNames t l.line record)
    (own : LotOfLine t new) : LineLaw t := by
  refine h.setLine lines named ?_ ?_ ?_
  · intro k hk same
    obtain rfl | ⟨hk, other⟩ := r.mem_cases hk
    · exact own
    · exact lotOfLine_of_inLane (h.inLane_of_ne hk r.mem state same other)
  · intro k hk elsewhere _
    exact r.mem_of_ne hk fun same => elsewhere (by rw [serials.eq_of_serial_eq hk r.mem same])
  · intro k hk elsewhere _
    obtain rfl | ⟨hk, -⟩ := r.mem_cases hk
    · exact absurd line elsewhere
    · exact hk

/-- A lot on its line is neither ready nor claimed, so that the queue and the claims do not name it. -/
theorem HallParts.not_queued_of_on_line {s : State} (h : HallParts s) {l : Lot} (mem : l ∈ s.lots)
    (state : l.state.inLane = false) : l.serial ∉ s.queue ∧ l.serial ∉ s.claims.map (·.serial) := by
  rw [h.mem_queue_iff mem, h.claims.exact l mem, Lot.ready_iff]
  constructor
  · rintro ⟨⟨cured, -⟩, -⟩
    simp [cured, LotState.inLane] at state
  · intro claimed
    simp [claimed, LotState.inLane] at state

/-- A lot that the queue does not name and that is not ready: the queue may stay. -/
theorem QueueFits.unnamed {s t : State} (h : HallParts s) {l new : Lot} (queue : t.queue = s.queue) (absent : l.serial ∉ s.queue)
    (unready : new.ready = false) : QueueFits l new s t where
  distinct := queue ▸ h.queue.distinct
  self := by simp [queue, absent, unready]
  others _ _ := by rw [queue]

/-- A lot that no claim names and that is not CLAIMED: the claims may stay. -/
theorem ClaimsFit.unnamed {s t : State} (h : HallParts s) {l new : Lot} (claims : t.claims = s.claims)
    (absent : l.serial ∉ s.claims.map (·.serial)) (unclaimed : new.state ≠ .claimed) : ClaimsFit l new s t where
  list := claims ▸ h.claims.list
  self := by simp only [claims, absent, unclaimed]
  others _ _ := by rw [claims]
  front claimed := absurd claimed unclaimed

/-- R57, R63: the DOSED lot and its line become VOID. -/
theorem voidDose_ages {s : State} {l : Lot} (mem : l ∈ s.lots) (state : l.state = .dosed) :
    HallAges s (voidDose l.line l.serial s) := by
  refine .then_same (u := setLine l.line (.void l.serial) (changeLot l.serial (Lot.withState .void) s)) (fun h => ?_) (same_raise _ _ _)
  have on_line : l.state.inLane = false := by simp [state, LotState.inLane]
  have law := h.lots l mem
  have unheld : l.hold = none := law.hold_eq_none (by simp [state, LotState.holdable])
  obtain ⟨unqueued, unclaimed⟩ := h.not_queued_of_on_line mem on_line
  have r : LotReplaced l (l.withState .void) s (setLine l.line (.void l.serial) (changeLot l.serial (Lot.withState .void) s)) :=
    ⟨mem, rfl, h.serials.map_changed mem rfl⟩
  have lines (m : Line) := setLine_lines_get (changeLot l.serial (Lot.withState .void) s) l.line m (.void l.serial)
  refine ⟨r.hallParts h {} ?_ ?_ ?_ ?_ ?_, r.forall_from .refl (Lot.ages_withState (by simp [state, LotState.reaches]))⟩
  · exact law.restate (st := .void) (r := l.hold) (by simp [state, LotState.inLane]) (absurd unheld) (by simp)
  · exact r.lineLaw_setLine h.serials h.lines on_line rfl lines ⟨_, r.new_mem, rfl, rfl, rfl⟩
      ⟨nofun, fun _ => (lines l.line).trans (if_pos rfl)⟩
  · exact r.laneLaw h.serials (fun _ => rfl) (fun _ => rfl) rfl h.lanes
  · exact .unnamed h rfl unqueued (by simp [Lot.ready])
  · exact .unnamed h rfl unclaimed (by simp)

/-- R57: a pour window that ends voids the line's dose. -/
theorem expireWindow_ages (n : Line) (s : State) : HallAges s (expireWindow n s) := by
  unfold expireWindow
  split
  case h_1 serial _ _ record =>
    intro h
    obtain ⟨-, l, mem, rfl, state, rfl⟩ := h.lines.exists_of_dosed record
    exact voidDose_ages mem state h
  all_goals exact .refl s

/-- R56: a line's timer takes a second event. -/
theorem runWindow_ages (n : Line) (s : State) : HallAges s (runWindow n s) := by
  unfold runWindow
  split
  case h_1 serial remaining warning record =>
    split
    case isTrue _ => exact expireWindow_ages n s
    case isFalse more =>
      have counted := setLine_countdown_ages record (remaining' := remaining - 1) (by omega) (by omega)
      split
      · exact counted.then_same (same_raise _ _ _)
      · exact counted
  all_goals exact .refl s

theorem runWindows_ages (s : State) : HallAges s (runWindows s) :=
  (runWindow_ages 0 s).trans <| (runWindow_ages 1 _).trans <| (runWindow_ages 2 _).trans <| runWindow_ages 3 _

end Sys2Proof.Machine
end

section
/-! ## A lot created, discharged, freed (R7, R10, R45, R59, R61) -/

namespace Sys2Proof.Machine

open Sys2Proof

/-! ### Discharge -/

/-- A lot of no lane goes to the back of lane b (R72). -/
theorem LotReplaced.laneLaw_placed {s t : State} {l new : Lot} (r : LotReplaced l new s t) (h : HallParts s) {b : Bay}
    {pourMinute : Nat} (elsewhere : l.place = none) (place : new.place = some ⟨b, s.lanes[b].lots.length, pourMinute⟩)
    (room : s.lanes[b].lots.length < s.lanes[b].capacity)
    (lanes : ∀ c : Bay, t.lanes[c] = if c = b then s.lanes[b].withBack l.serial else s.lanes[c]) : LaneLaw t := by
  have old {c : Bay} {i serial : Nat} (at_i : s.lanes[c].lots[i]? = some serial) :
      ∃ k ∈ t.lots, k.serial = serial ∧ k.place.map (·.bay) = some c ∧ k.place.map (·.position) = some i := by
    obtain ⟨k, hk, rfl, bay, position⟩ := h.lanes.standing c i serial at_i
    refine ⟨k, r.mem_of_ne hk fun same => ?_, rfl, bay, position⟩
    rw [h.serials.eq_of_serial_eq hk r.mem same, elsewhere] at bay
    exact absurd bay nofun
  refine ⟨fun c => ?_, fun c => ?_, fun c i serial at_i => ?_, fun k hk p at_p => ?_⟩
  · rw [lanes]
    split
    · simpa [Lane.withBack] using room
    · exact h.lanes.room c
  · have absent : l.serial ∉ s.lanes[b].lots := by rw [h.lanes.mem_iff h.serials r.mem, elsewhere]; nofun
    rw [lanes]
    split
    · exact List.nodup_append.2 ⟨h.lanes.distinct b, List.nodup_singleton _, fun a mem c one same =>
        absent (by rwa [← List.mem_singleton.1 one, ← same])⟩
    · exact h.lanes.distinct c
  · rw [lanes] at at_i
    split at at_i
    case isFalse _ => exact old at_i
    case isTrue same =>
      subst same
      rcases Nat.lt_trichotomy i s.lanes[c].lots.length with inside | rfl | beyond
      · exact old (by rwa [Lane.withBack, List.getElem?_append_left inside] at at_i)
      · obtain rfl : l.serial = serial := by simpa [Lane.withBack] using at_i
        exact ⟨new, r.new_mem, r.serial, by simp [place], by simp [place]⟩
      · rw [Lane.withBack, List.getElem?_eq_none (by simpa using beyond)] at at_i
        exact absurd at_i nofun
  · obtain rfl | ⟨hk, -⟩ := r.mem_cases hk
    · obtain rfl : _ = p := Option.some.inj (place.symm.trans at_p)
      simp [lanes, Lane.withBack, r.serial]
    · have listed := h.lanes.listed k hk p at_p
      rw [lanes]
      split
      · next same =>
        have inside : p.position < s.lanes[p.bay].lots.length := (List.getElem?_eq_some_iff.1 listed).1
        simp only [← same, Lane.withBack, List.getElem?_append_left inside, listed]
      · exact listed

/-- R59: the line's DOSED lot goes to the back of a lane with room and becomes CURING, and the line is IDLE. -/
theorem discharge_follows {s : State} {n : Line} {b : Bay} {serial remaining warning : Nat}
    (record : s.lines[n] = .dosed serial remaining warning) (room : s.lanes[b].lots.length < s.lanes[b].capacity) :
    HallFollows s (setLine n .idle (placeLot b serial s)) := by
  intro h
  obtain ⟨-, l, mem, rfl, state, rfl⟩ := h.lines.exists_of_dosed record
  have on_line : l.state.inLane = false := by simp [state, LotState.inLane]
  have law := h.lots l mem
  obtain ⟨unqueued, unclaimed⟩ := h.not_queued_of_on_line mem on_line
  have r : LotReplaced l { l with state := .curing, place := some ⟨b, s.lanes[b].lots.length, s.plantMinute⟩ } s
      (setLine l.line .idle (placeLot b l.serial s)) := ⟨mem, rfl, h.serials.map_changed mem rfl⟩
  have lanes (c : Bay) := placeLot_lanes_get s b c l.serial
  have lines (m : Line) := setLine_lines_get (placeLot b l.serial s) l.line m .idle
  have parameters : SameParameters s (setLine l.line .idle (placeLot b l.serial s)) :=
    { capacity := fun c => by
        rw [setLine_lanes, lanes]
        split
        · next same => rw [same]; rfl
        · rfl }
  have follows : l.Follows { l with state := .curing, place := some ⟨b, s.lanes[b].lots.length, s.plantMinute⟩ } :=
    ⟨⟨rfl, le_rfl, le_rfl, le_rfl, le_rfl, le_rfl, le_rfl, id, id, id⟩, .inr (by simp [state, stateRows])⟩
  refine ⟨r.hallParts h parameters ?_ ?_ ?_ ?_ ?_, fun m hm => .inl (r.forall_from .refl follows m hm)⟩
  · exact { law with placed := rfl, holdable := fun _ => rfl, fresh := nofun, cured := by simp }
  · exact r.lineLaw_setLine h.serials h.lines on_line rfl lines trivial (lotOfLine_of_inLane rfl)
  · exact r.laneLaw_placed h (law.place_eq_none on_line) rfl room lanes
  · exact .unnamed h rfl unqueued (by simp [Lot.ready])
  · exact .unnamed h rfl unclaimed (by simp)

/-! ### Abandonment -/

theorem SerialLaw.of_sublist {s t : State} (h : SerialLaw s) (sub : (t.lots.map (·.serial)).Sublist (s.lots.map (·.serial)))
    (next : t.nextSerial = s.nextSerial) : SerialLaw t where
  atMost := by simpa using sub.length_le.trans (by simpa using h.atMost)
  distinct := h.distinct.sublist sub
  inRange k mem := by
    obtain ⟨l, hl, same⟩ := List.mem_map.1 (sub.mem (List.mem_map_of_mem mem))
    exact same ▸ h.inRange l hl
  counter := next ▸ h.counter

/-- t has the lots of s but for l, a lot on its line. -/
structure LotFreed (l : Lot) (s t : State) : Prop where
  mem : l ∈ s.lots
  on_line : l.state.inLane = false
  lots : t.lots = s.lots.filter (·.serial ≠ l.serial)

section
variable {s t : State} {l : Lot} (r : LotFreed l s t)
include r

theorem LotFreed.mem_iff {k : Lot} : k ∈ t.lots ↔ k ∈ s.lots ∧ k.serial ≠ l.serial := by simp [r.lots]

theorem LotFreed.serialLaw (h : SerialLaw s) (next : t.nextSerial = s.nextSerial) : SerialLaw t :=
  h.of_sublist (r.lots ▸ List.filter_sublist.map _) next

/-- The line is IDLE from then on, and no other lot was on it. -/
theorem LotFreed.lineLaw (serials : SerialLaw s) (h : LineLaw s)
    (lines : ∀ m : Line, t.lines[m] = if m = l.line then .idle else s.lines[m]) : LineLaw t := by
  refine h.setLine lines trivial ?_ ?_ fun k hk _ _ => (r.mem_iff.1 hk).1
  · intro k hk same
    obtain ⟨hk, other⟩ := r.mem_iff.1 hk
    exact lotOfLine_of_inLane (h.inLane_of_ne hk r.mem r.on_line same other)
  · intro k hk away _
    exact r.mem_iff.2 ⟨hk, fun same => away (by rw [serials.eq_of_serial_eq hk r.mem same])⟩

theorem LotFreed.laneLaw (h : HallParts s) (lanes : t.lanes = s.lanes) : LaneLaw t where
  room := lanes ▸ h.lanes.room
  distinct := lanes ▸ h.lanes.distinct
  standing b i serial at_i := by
    rw [lanes] at at_i
    obtain ⟨k, hk, rfl, bay, position⟩ := h.lanes.standing b i serial at_i
    refine ⟨k, r.mem_iff.2 ⟨hk, fun same => ?_⟩, rfl, bay, position⟩
    rw [h.serials.eq_of_serial_eq hk r.mem same, (h.lots l r.mem).place_eq_none r.on_line] at bay
    exact absurd bay nofun
  listed k hk := by
    rw [lanes]
    exact h.lanes.listed k (r.mem_iff.1 hk).1

theorem LotFreed.queueLaw (h : HallParts s) (queue : t.queue = s.queue) : QueueLaw t where
  distinct := queue ▸ h.queue.distinct
  exact serial := by
    have unqueued := (h.not_queued_of_on_line r.mem r.on_line).1
    rw [queue, h.queue.exact]
    constructor
    · rintro ⟨k, hk, rfl, offered⟩
      have other : k.serial ≠ l.serial := fun same => unqueued (same ▸ (h.mem_queue_iff hk).2 offered)
      exact ⟨k, r.mem_iff.2 ⟨hk, other⟩, rfl, offered⟩
    · rintro ⟨k, hk, offered⟩
      exact ⟨k, (r.mem_iff.1 hk).1, offered⟩

theorem LotFreed.claimLaw (h : HallParts s) (claims : t.claims = s.claims) : ClaimLaw t where
  list := claims ▸ h.claims.list
  exact k hk := claims ▸ h.claims.exact k (r.mem_iff.1 hk).1
  live serial named := by
    rw [claims] at named
    obtain ⟨k, hk, rfl⟩ := h.claims.live serial named
    have other : k.serial ≠ l.serial := fun same => (h.not_queued_of_on_line r.mem r.on_line).2 (same ▸ named)
    exact ⟨k, r.mem_iff.2 ⟨hk, other⟩, rfl⟩
  front k hk := h.claims.front k (r.mem_iff.1 hk).1

end

/-- R61: the line's lot is freed, and the line is IDLE. -/
theorem abandon_ages {s : State} {l : Lot} (mem : l ∈ s.lots) (on_line : l.state.inLane = false) :
    HallAges s (setLine l.line .idle (freeLot l.serial s)) := by
  intro h
  have r : LotFreed l s (setLine l.line .idle (freeLot l.serial s)) := ⟨mem, on_line, rfl⟩
  refine ⟨?_, fun m hm => ⟨m, (r.mem_iff.1 hm).1, .refl m⟩⟩
  exact
    { serials := r.serialLaw h.serials rfl
      lots := fun k hk => h.lots k (r.mem_iff.1 hk).1
      lines := r.lineLaw h.serials h.lines fun m => setLine_lines_get _ l.line m .idle
      lanes := r.laneLaw h rfl
      queue := r.queueLaw h rfl
      claims := r.claimLaw h rfl
      parameters := SameParameters.parameterLaw {} h.parameters
      recipes := h.recipes }

/-! ### Creation -/

/-- t has the lots of s and a lawful DOSED lot of another serial. -/
structure LotCreated (new : Lot) (s t : State) : Prop where
  lots : t.lots = s.lots ++ [new]
  free : ∀ l ∈ s.lots, l.serial ≠ new.serial
  law : LotLaw new
  state : new.state = .dosed

section
variable {s t : State} {new : Lot} (r : LotCreated new s t)
include r

theorem LotCreated.mem_iff {k : Lot} : k ∈ t.lots ↔ k ∈ s.lots ∨ k = new := by simp [r.lots]

theorem LotCreated.serialLaw (h : SerialLaw s) (room : s.lots.length < Config.lotRecords)
    (range : 1 ≤ new.serial ∧ new.serial ≤ Config.maxSerial) (next : t.nextSerial = nextAfter new.serial) : SerialLaw t where
  atMost := by simpa [r.lots] using room
  distinct := by simpa [r.lots, List.nodup_append, h.distinct] using r.free
  inRange k hk := by
    obtain old | rfl := r.mem_iff.1 hk
    · exact h.inRange k old
    · exact range
  counter := next ▸ nextAfter_inRange range.2

/-- The new lot's line was IDLE, and holds it from then on. -/
theorem LotCreated.lineLaw (h : LineLaw s) {remaining warning : Nat} (idle : s.lines[new.line] = .idle)
    (window : 1 ≤ remaining ∧ remaining ≤ 5400 ∧ warning ≤ 5399)
    (lines : ∀ m : Line, t.lines[m] = if m = new.line then .dosed new.serial remaining warning else s.lines[m]) : LineLaw t := by
  refine h.setLine lines ⟨window, new, r.mem_iff.2 (.inr rfl), rfl, r.state, rfl⟩ ?_ (fun k hk _ _ => r.mem_iff.2 (.inl hk)) ?_
  · intro k hk same
    obtain old | rfl := r.mem_iff.1 hk
    · refine lotOfLine_of_inLane ?_
      by_contra on_line
      have named := h.serial_of_line old (by simpa using on_line)
      simp only [same, idle, LineRecord.serial, reduceCtorEq] at named
    · exact ⟨fun _ => ⟨remaining, warning, (lines k.line).trans (if_pos rfl)⟩, fun void => absurd (r.state.symm.trans void) nofun⟩
  · intro k hk away _
    obtain old | rfl := r.mem_iff.1 hk
    · exact old
    · exact absurd rfl away

theorem LotCreated.laneLaw (h : LaneLaw s) (lanes : t.lanes = s.lanes) : LaneLaw t where
  room := lanes ▸ h.room
  distinct := lanes ▸ h.distinct
  standing b i serial at_i := by
    rw [lanes] at at_i
    obtain ⟨k, hk, stands⟩ := h.standing b i serial at_i
    exact ⟨k, r.mem_iff.2 (.inl hk), stands⟩
  listed k hk p at_p := by
    obtain old | rfl := r.mem_iff.1 hk
    · rw [lanes]
      exact h.listed k old p at_p
    · have elsewhere : k.place = none := r.law.place_eq_none (by simp [r.state, LotState.inLane])
      exact absurd (elsewhere.symm.trans at_p) nofun

theorem LotCreated.queueLaw (h : QueueLaw s) (queue : t.queue = s.queue) : QueueLaw t where
  distinct := queue ▸ h.distinct
  exact serial := by
    rw [queue, h.exact]
    constructor
    · rintro ⟨k, hk, offered⟩
      exact ⟨k, r.mem_iff.2 (.inl hk), offered⟩
    · rintro ⟨k, hk, same, ready, front⟩
      obtain old | rfl := r.mem_iff.1 hk
      · exact ⟨k, old, same, ready, front⟩
      · exact absurd (r.state.symm.trans (Lot.ready_iff.1 ready).1) nofun

theorem LotCreated.claimLaw (h : ClaimLaw s) (claims : t.claims = s.claims) : ClaimLaw t where
  list := claims ▸ h.list
  exact k hk := by
    rw [claims]
    obtain old | rfl := r.mem_iff.1 hk
    · exact h.exact k old
    · refine iff_of_false (fun named => ?_) (by simp [r.state])
      obtain ⟨l, hl, same⟩ := h.live _ named
      exact r.free l hl same
  live serial named := by
    obtain ⟨k, hk, same⟩ := h.live serial (claims ▸ named)
    exact ⟨k, r.mem_iff.2 (.inl hk), same⟩
  front k hk claimed := by
    obtain old | rfl := r.mem_iff.1 hk
    · exact h.front k old claimed
    · exact absurd (r.state.symm.trans claimed) nofun

end

/-- R7, R55: a lawful new lot is DOSED on an IDLE line under a free serial. -/
theorem create_follows {s : State} {new : Lot} {remaining warning : Nat} (idle : s.lines[new.line] = .idle)
    (room : s.lots.length < Config.lotRecords) (law : LotLaw new) (state : new.state = .dosed)
    (range : 1 ≤ new.serial ∧ new.serial ≤ Config.maxSerial) (free : ∀ l ∈ s.lots, l.serial ≠ new.serial)
    (window : 1 ≤ remaining ∧ remaining ≤ 5400 ∧ warning ≤ 5399) :
    HallFollows s (setLine new.line (.dosed new.serial remaining warning) (createLot new s)) := by
  intro h
  have r : LotCreated new s (setLine new.line (.dosed new.serial remaining warning) (createLot new s)) := ⟨rfl, free, law, state⟩
  refine ⟨?_, fun m hm => ?_⟩
  · exact
      { serials := r.serialLaw h.serials room range rfl
        lots := by
          intro k hk
          obtain old | rfl := r.mem_iff.1 hk
          · exact h.lots k old
          · exact law
        lines := r.lineLaw h.lines idle window fun m => setLine_lines_get _ new.line m _
        lanes := r.laneLaw h.lanes rfl
        queue := r.queueLaw h.queue rfl
        claims := r.claimLaw h.claims rfl
        parameters := { h.parameters with nextSerial := nextAfter_inRange range.2 }
        recipes := h.recipes }
  · obtain old | rfl := r.mem_iff.1 hm
    · exact .inl ⟨m, old, .refl m⟩
    · exact .inr free

end Sys2Proof.Machine
end

section
/-! ## Front removals (R73, R74, R116, R134) -/

namespace Sys2Proof.Machine

open Sys2Proof

/-- The record of a lot after a front removal of lane b: one position forward when it stood behind the front (R73). -/
def Lot.afterRemoval (s : State) (b : Bay) (l : Lot) : Lot := if l.serial ∈ s.lanes[b].lots.tail then l.advanced else l

theorem removeFront_lots_eq (b : Bay) (s : State) :
    (removeFront b s).lots
      = (s.lots.filter fun l => some l.serial ≠ s.lanes[b].lots.head?).map (Lot.afterRemoval s b) := rfl

theorem Lot.afterRemoval_cases (s : State) (b : Bay) (l : Lot) : l.afterRemoval s b = l.advanced ∨ l.afterRemoval s b = l := by
  unfold Lot.afterRemoval
  split
  · exact .inl rfl
  · exact .inr rfl

theorem Lot.ages_afterRemoval (s : State) (b : Bay) (l : Lot) : l.Ages (l.afterRemoval s b) := by
  rcases l.afterRemoval_cases s b with e | e <;> rw [e]
  · exact l.ages_advanced
  · exact .refl l

@[simp] theorem Lot.afterRemoval_serial (s : State) (b : Bay) (l : Lot) : (l.afterRemoval s b).serial = l.serial := by
  rcases l.afterRemoval_cases s b with e | e <;> simp [e]

@[simp] theorem Lot.afterRemoval_state (s : State) (b : Bay) (l : Lot) : (l.afterRemoval s b).state = l.state := by
  rcases l.afterRemoval_cases s b with e | e <;> simp [e]

@[simp] theorem Lot.afterRemoval_line (s : State) (b : Bay) (l : Lot) : (l.afterRemoval s b).line = l.line := by
  rcases l.afterRemoval_cases s b with e | e <;> simp [e]

@[simp] theorem Lot.afterRemoval_ready (s : State) (b : Bay) (l : Lot) : (l.afterRemoval s b).ready = l.ready := by
  rcases l.afterRemoval_cases s b with e | e <;> simp [e, Lot.ready]

theorem LotLaw.afterRemoval {l : Lot} (h : LotLaw l) (s : State) (b : Bay) : LotLaw (l.afterRemoval s b) := by
  rcases l.afterRemoval_cases s b with e | e <;> rw [e]
  · exact { h with placed := by simpa [Lot.advanced] using h.placed }
  · exact h

theorem SerialLaw.removeFront {s : State} (h : SerialLaw s) (b : Bay) : SerialLaw (removeFront b s) := by
  refine h.of_sublist ?_ rfl
  rw [removeFront_lots_eq, List.map_map]
  have same : ((fun x : Lot => x.serial) ∘ Lot.afterRemoval s b) = fun x => x.serial := by
    funext x; simp
  rw [same]
  exact List.filter_sublist.map _

/-! ### The join of a lane's front -/

theorem mem_joinFront (s : State) (b : Bay) (serial : Nat) :
    serial ∈ (joinFront b s).queue ↔ serial ∈ s.queue ∨ s.readyFront b = some serial := by
  unfold joinFront
  cases s.readyFront b with
  | none => simp
  | some front => simpa [joinTail, eq_comm] using mem_joinTail s front serial

theorem joinFront_nodup {s : State} (b : Bay) (h : s.queue.Nodup) : (joinFront b s).queue.Nodup := by
  unfold joinFront
  cases s.readyFront b with
  | none => exact h
  | some front => exact joinTail_nodup s h

theorem SerialLaw.readyFront_eq_some_iff {s : State} (h : SerialLaw s) {b : Bay} {serial : Nat} :
    s.readyFront b = some serial ↔ s.lanes[b].lots.head? = some serial ∧ ∃ l ∈ s.lots, l.serial = serial ∧ l.ready = true := by
  have ready (front : Nat) : (s.lot? front).any Lot.ready = true ↔ ∃ l ∈ s.lots, l.serial = front ∧ l.ready = true := by
    simp only [Option.any_eq_true, h.lot?_eq_some_iff, and_assoc]
  unfold State.readyFront
  cases s.lanes[b].lots.head? with
  | none => simp
  | some front =>
    dsimp only
    split
    case isTrue yes =>
      simp only [Option.some.injEq, iff_self_and]
      rintro rfl
      exact (ready front).1 yes
    case isFalse no =>
      simp only [Option.some.injEq, reduceCtorEq, false_iff, not_and]
      rintro rfl
      rwa [← ready front]

/-! ### The removal -/

section
variable {s : State} {l : Lot} {b : Bay} {behind : List Nat}

/-- Lane b before the removal of its front lot l. -/
structure Fronted (s : State) (l : Lot) (b : Bay) (behind : List Nat) : Prop where
  mem : l ∈ s.lots
  lane : s.lanes[b].lots = l.serial :: behind

theorem Fronted.mem_removed_iff (f : Fronted s l b behind) {k : Lot} :
    k ∈ (removeFront b s).lots ↔ ∃ x ∈ s.lots, x.serial ≠ l.serial ∧ x.afterRemoval s b = k := by
  rw [removeFront_lots_eq, f.lane, List.mem_map]
  simp [and_assoc]

/-- The place of a lot after the removal. -/
theorem Fronted.afterRemoval_place (f : Fronted s l b behind) (h : HallParts s) {k : Lot} (mem : k ∈ s.lots)
    (other : k.serial ≠ l.serial) : (k.afterRemoval s b).place
      = k.place.map fun p => if p.bay = b then { p with position := p.position - 1 } else p := by
  have listed : k.serial ∈ behind ↔ k.place.map (·.bay) = some b := by
    rw [← h.lanes.mem_iff h.serials mem, f.lane, List.mem_cons]
    simp [other]
  rw [Lot.afterRemoval, f.lane, List.tail_cons]
  cases at_p : k.place with
  | none => split <;> simp [Lot.advanced, at_p]
  | some p =>
    rw [at_p, Option.map_some, Option.some.injEq] at listed
    by_cases bay : p.bay = b
    · simp [listed.2 bay, bay, Lot.advanced, at_p]
    · simp [mt listed.1 bay, bay, at_p]

/-- A lot in lane b other than the front stands behind it. -/
theorem Fronted.listed_behind (f : Fronted s l b behind) (h : HallParts s) {k : Lot} (mem : k ∈ s.lots)
    (other : k.serial ≠ l.serial) {p : Place} (at_p : k.place = some p) (bay : p.bay = b) :
    1 ≤ p.position ∧ behind[p.position - 1]? = some k.serial := by
  have listed := h.lanes.listed k mem p at_p
  simp only [bay, f.lane] at listed
  cases pos : p.position with
  | zero =>
    rw [pos, List.getElem?_cons_zero, Option.some.injEq] at listed
    exact absurd listed.symm other
  | succ i =>
    rw [pos, List.getElem?_cons_succ] at listed
    exact ⟨Nat.succ_pos i, listed⟩

theorem Fronted.lanes_get (f : Fronted s l b behind) (c : Bay) :
    (removeFront b s).lanes[c].lots = if c = b then behind else s.lanes[c].lots := by
  rw [removeFront_lanes_get]
  split
  · show s.lanes[b].lots.tail = behind
    rw [f.lane, List.tail_cons]
  · rfl

theorem Fronted.absent_behind (f : Fronted s l b behind) (h : HallParts s) : l.serial ∉ behind ∧ behind.Nodup :=
  List.nodup_cons.1 (f.lane ▸ h.lanes.distinct b)

theorem Fronted.place (f : Fronted s l b behind) (h : HallParts s) :
    l.place.map (·.bay) = some b ∧ l.place.map (·.position) = some 0 := by
  obtain ⟨k, hk, same, bay, position⟩ := h.lanes.standing b 0 l.serial (by rw [f.lane]; rfl)
  exact h.serials.eq_of_serial_eq hk f.mem same ▸ ⟨bay, position⟩

theorem Fronted.standing (f : Fronted s l b behind) (h : HallParts s) : l.state.inLane = true := by
  obtain ⟨p, at_p, -⟩ := Option.map_eq_some_iff.1 (f.place h).1
  exact (h.lots l f.mem).inLane_of_place at_p

theorem Fronted.lineLaw (f : Fronted s l b behind) (h : HallParts s) : LineLaw (removeFront b s) where
  names n := by
    have kept {k : Lot} (hk : k ∈ s.lots) (on_line : k.state.inLane = false) : k.afterRemoval s b ∈ (removeFront b s).lots := by
      refine f.mem_removed_iff.2 ⟨k, hk, fun same => ?_, rfl⟩
      rw [h.serials.eq_of_serial_eq hk f.mem same, f.standing h] at on_line
      exact absurd on_line nofun
    rw [removeFront_lines]
    cases record : s.lines[n] with
    | idle => trivial
    | dosed serial remaining warning =>
      obtain ⟨range, k, hk, rfl, state, rfl⟩ := h.lines.exists_of_dosed record
      exact ⟨range, _, kept hk (by simp [state, LotState.inLane]), by simp, by simpa using state, by simp⟩
    | void serial =>
      obtain ⟨k, hk, rfl, state, rfl⟩ := h.lines.exists_of_void record
      exact ⟨_, kept hk (by simp [state, LotState.inLane]), by simp, by simpa using state, by simp⟩
  ofLots k hk := by
    obtain ⟨x, hx, -, rfl⟩ := f.mem_removed_iff.1 hk
    simpa only [LotOfLine, Lot.afterRemoval_state, Lot.afterRemoval_line, Lot.afterRemoval_serial, removeFront_lines]
      using h.lines.ofLots x hx

theorem Fronted.laneLaw (f : Fronted s l b behind) (h : HallParts s) : LaneLaw (removeFront b s) := by
  obtain ⟨absent, distinct⟩ := f.absent_behind h
  refine ⟨fun c => ?_, fun c => ?_, fun c i serial at_i => ?_, fun k hk p at_p => ?_⟩
  · have room := h.lanes.room c
    rw [removeFront_lanes_get]
    split
    · next same =>
      subst same
      rw [f.lane] at room ⊢
      exact Nat.le_of_succ_le room
    · exact room
  · rw [f.lanes_get]
    split
    · exact distinct
    · exact h.lanes.distinct c
  · rw [f.lanes_get] at at_i
    split at at_i
    case isTrue same =>
      subst same
      obtain ⟨k, hk, rfl, bay, position⟩ := h.lanes.standing c (i + 1) serial (by rw [f.lane]; exact at_i)
      have other : k.serial ≠ l.serial := fun same => absent (same ▸ List.mem_of_getElem? at_i)
      obtain ⟨p, at_p, rfl⟩ := Option.map_eq_some_iff.1 bay
      rw [at_p, Option.map_some, Option.some.injEq] at position
      refine ⟨_, f.mem_removed_iff.2 ⟨k, hk, other, rfl⟩, by simp, ?_⟩
      simp [f.afterRemoval_place h hk other, at_p, position]
    case isFalse away =>
      obtain ⟨k, hk, rfl, bay, position⟩ := h.lanes.standing c i serial at_i
      have other : k.serial ≠ l.serial := by
        intro same
        rw [h.serials.eq_of_serial_eq hk f.mem same, (f.place h).1, Option.some.injEq] at bay
        exact away bay.symm
      obtain ⟨p, at_p, rfl⟩ := Option.map_eq_some_iff.1 bay
      refine ⟨_, f.mem_removed_iff.2 ⟨k, hk, other, rfl⟩, by simp, ?_⟩
      simpa [f.afterRemoval_place h hk other, at_p, away] using position
  · obtain ⟨x, hx, other, rfl⟩ := f.mem_removed_iff.1 hk
    rw [f.afterRemoval_place h hx other] at at_p
    obtain ⟨q, at_q, rfl⟩ := Option.map_eq_some_iff.1 at_p
    rw [f.lanes_get, Lot.afterRemoval_serial]
    by_cases bay : q.bay = b
    · simpa [bay] using (f.listed_behind h hx other at_q bay).2
    · simpa [bay] using h.lanes.listed x hx q at_q

/-- After the removal a lot other than the front is at the front exactly when it was, or stood next behind the front of lane b. -/
theorem Fronted.afterRemoval_atFront (f : Fronted s l b behind) (h : HallParts s) {k : Lot} (mem : k ∈ s.lots)
    (other : k.serial ≠ l.serial) :
    (k.afterRemoval s b).atFront = true ↔ k.atFront = true ∨ behind.head? = some k.serial := by
  have next : behind.head? = some k.serial ↔ ∃ p, k.place = some p ∧ p.bay = b ∧ p.position = 1 := by
    constructor
    · intro head
      have at_one : s.lanes[b].lots[1]? = some k.serial := by rw [f.lane]; simpa [List.head?_eq_getElem?] using head
      obtain ⟨x, hx, same, bay, position⟩ := h.lanes.standing b 1 _ at_one
      rw [h.serials.eq_of_serial_eq hx mem same] at bay position
      obtain ⟨p, at_p, rfl⟩ := Option.map_eq_some_iff.1 bay
      exact ⟨p, at_p, rfl, by simpa [at_p] using position⟩
    · rintro ⟨p, at_p, bay, position⟩
      simpa [position, List.head?_eq_getElem?] using (f.listed_behind h mem other at_p bay).2
  rw [next, Lot.atFront_iff, Lot.atFront_iff, f.afterRemoval_place h mem other]
  cases at_p : k.place with
  | none => simp
  | some p =>
    by_cases bay : p.bay = b
    · have behind_front := (f.listed_behind h mem other at_p bay).1
      simp [bay]
      omega
    · simp [bay]

/-- The new front that joins the queue after the removal: the lot next behind the front, when it is ready (R74). -/
theorem Fronted.readyFront_iff (f : Fronted s l b behind) (h : SerialLaw s) {serial : Nat} :
    (removeFront b s).readyFront b = some serial
      ↔ behind.head? = some serial ∧ ∃ k ∈ (removeFront b s).lots, k.serial = serial ∧ k.ready = true := by
  have lane := f.lanes_get b
  rw [if_pos rfl] at lane
  rw [(h.removeFront b).readyFront_eq_some_iff, lane]

theorem Fronted.queueLaw (f : Fronted s l b behind) (h : HallParts s) (unqueued : l.serial ∉ s.queue) :
    QueueLaw (joinFront b (removeFront b s)) where
  distinct := joinFront_nodup b h.queue.distinct
  exact serial := by
    rw [mem_joinFront, f.readyFront_iff h.serials]
    constructor
    · rintro (queued | ⟨head, k, hk, rfl, ready⟩)
      · obtain ⟨x, hx, rfl, ready, front⟩ := (h.queue.exact serial).1 queued
        have other : x.serial ≠ l.serial := fun same => unqueued (same ▸ queued)
        exact ⟨_, f.mem_removed_iff.2 ⟨x, hx, other, rfl⟩, by simp, by simpa using ready,
          (f.afterRemoval_atFront h hx other).2 (.inl front)⟩
      · obtain ⟨x, hx, other, rfl⟩ := f.mem_removed_iff.1 hk
        rw [Lot.afterRemoval_serial] at head
        exact ⟨_, hk, rfl, ready, (f.afterRemoval_atFront h hx other).2 (.inr head)⟩
    · rintro ⟨k, hk, rfl, ready, front⟩
      obtain ⟨x, hx, other, rfl⟩ := f.mem_removed_iff.1 hk
      rw [Lot.afterRemoval_serial]
      rcases (f.afterRemoval_atFront h hx other).1 front with front | head
      · exact .inl ((h.mem_queue_iff hx).2 ⟨by simpa using ready, front⟩)
      · exact .inr ⟨head, _, hk, by simp, ready⟩

theorem Fronted.claimLaw (f : Fronted s l b behind) (h : HallParts s) :
    ClaimLaw (removeFront b (removeClaim l.serial s)) where
  list := h.claims.list.sublist List.filter_sublist
  exact k hk := by
    obtain ⟨x, hx, other, rfl⟩ := f.mem_removed_iff.1 hk
    rw [Lot.afterRemoval_serial, Lot.afterRemoval_state, ← h.claims.exact x hx]
    exact mem_serials_filter_ne.trans (and_iff_left other)
  live serial named := by
    obtain ⟨named, other⟩ := mem_serials_filter_ne.1 named
    obtain ⟨x, hx, rfl⟩ := h.claims.live serial named
    exact ⟨_, f.mem_removed_iff.2 ⟨x, hx, other, rfl⟩, by simp⟩
  front k hk claimed := by
    obtain ⟨x, hx, other, rfl⟩ := f.mem_removed_iff.1 hk
    rw [Lot.afterRemoval_state] at claimed
    exact (f.afterRemoval_atFront h hx other).2 (.inl (h.claims.front x hx claimed))

/-- R73, R74: the front lot, which is not queued, leaves its lane with its claim, and the new front joins the queue if it is ready. -/
theorem Fronted.removal_ages (f : Fronted s l b behind) (unqueued : l.serial ∉ s.queue) :
    HallAges s (joinFront b (removeFront b (removeClaim l.serial s))) := by
  intro h
  refine ⟨?_, fun m hm => ?_⟩
  · exact
      { serials := (h.serials.removeFront b).of_sublist (.refl _) rfl
        lots := by
          intro k hk
          obtain ⟨x, hx, -, rfl⟩ := f.mem_removed_iff.1 hk
          exact (h.lots x hx).afterRemoval s b
        lines := (f.lineLaw h).congr rfl rfl
        lanes := (f.laneLaw h).congr rfl (fun _ => rfl) (f.laneLaw h).room
        queue := ⟨(f.queueLaw h unqueued).distinct, (f.queueLaw h unqueued).exact⟩
        claims := (f.claimLaw h).congr rfl rfl
        parameters := by
          refine SameParameters.parameterLaw (s := s) { capacity := fun c => ?_ } h.parameters
          rw [joinFront_lanes, removeFront_lanes_get]
          split
          · next same => rw [same]; rfl
          · rfl
        recipes := h.recipes }
  · obtain ⟨x, hx, -, rfl⟩ := f.mem_removed_iff.1 hm
    exact ⟨x, hx, x.ages_afterRemoval s b⟩

end

end Sys2Proof.Machine
end

section
/-! ## The interval event (R83, R95 to R101) -/

namespace Sys2Proof.Machine

open Sys2Proof

/-! ### The credit -/

/-- Every lot takes a record of the same state, hold and place: the queue and the claims may stay. -/
theorem LotsMapped.hallParts_of_kept {s t : State} {f : Lot → Lot} (m : LotsMapped f s t) (h : HallParts s)
    (parameters : SameParameters s t) (lines : t.lines = s.lines) (lanes : ∀ b : Bay, t.lanes[b].lots = s.lanes[b].lots)
    (queue : t.queue = s.queue) (claims : t.claims = s.claims)
    (kept : ∀ l ∈ s.lots, (f l).line = l.line ∧ (f l).place = l.place ∧ (f l).state = l.state ∧ (f l).hold = l.hold)
    (law : ∀ l ∈ s.lots, LotLaw (f l)) : HallParts t where
  serials := m.serialLaw parameters.nextSerial h.serials
  lots := m.lotLaw law
  lines := by
    refine m.lineLaw lines (fun l hl => (kept l hl).1) (fun l hl => ?_) (fun l hl => ?_) h.lines
    all_goals rw [(kept l hl).2.2.1]
  lanes := m.laneLaw lanes parameters.capacity (fun l hl => (kept l hl).2.1) h.lanes
  queue := by
    refine m.queueLaw (queue ▸ h.queue.distinct) (fun serial queued => ?_) (fun l hl => ?_)
    · obtain ⟨l, hl, same, -⟩ := (h.queue.exact serial).1 (queue ▸ queued)
      exact ⟨l, hl, same⟩
    · obtain ⟨-, place, state, hold⟩ := kept l hl
      rw [queue, h.mem_queue_iff hl, Lot.atFront_congr place, Lot.ready, Lot.ready, state, hold]
  claims := by
    refine m.claimLaw (claims ▸ h.claims.list) (fun serial named => h.claims.live serial (claims ▸ named)) (fun l hl => ?_)
      (fun l hl claimed => ?_)
    · rw [claims, h.claims.exact l hl, (kept l hl).2.2.1]
    · obtain ⟨-, place, state, -⟩ := kept l hl
      rw [Lot.atFront_congr place]
      exact h.claims.front l hl (state ▸ claimed)
  parameters := parameters.parameterLaw h.parameters
  recipes := parameters.recipeLaw h.recipes

theorem Lot.afterCredit_cases (temperatures : Bay → Option Int) (l : Lot) :
    (l.state.credited = true ∧ ∃ t, l.afterCredit temperatures = l.creditedAt t) ∨ l.afterCredit temperatures = l := by
  unfold Lot.afterCredit
  split
  case h_1 p _ =>
    split
    case isTrue credited => exact .inl ⟨credited, _, rfl⟩
    case isFalse _ => exact .inr rfl
  case h_2 => exact .inr rfl

/-- The credit lowers no count (R95, R96, R97). -/
theorem LotLaw.grows_creditedAt {l : Lot} (h : LotLaw l) (t : Option Int) : l.Grows (l.creditedAt t) where
  snapshot := rfl
  maxAge := le_rfl
  age := le_satAdd h.age 1
  maturity := by
    cases t with
    | none => exact le_rfl
    | some t => exact le_satAdd h.maturity _
  hotMinutes := by
    cases t with
    | none => exact le_rfl
    | some t =>
      simp only [Lot.creditedAt]
      split
      · exact le_satAdd h.hotMinutes 1
      · exact le_rfl
  outages := le_rfl
  extensions := le_rfl
  extended := id
  interrupted := id
  hotHeld := id

/-- A lot that met its criteria meets them later (R98). -/
theorem Lot.Grows.meetsCriteria {l m : Lot} (g : l.Grows m) (h : l.meetsCriteria = true) : m.meetsCriteria = true := by
  obtain ⟨-, -, -, -, -, target, -, -, minAge, -⟩ := Lot.snapshot_eq_iff.1 g.snapshot
  simp only [Lot.meetsCriteria, Bool.and_eq_true, decide_eq_true_eq, target, minAge] at h ⊢
  exact ⟨h.1.trans g.maturity, h.2.trans g.age⟩

theorem LotLaw.creditedAt {l : Lot} (h : LotLaw l) (credited : l.state.credited = true) (t : Option Int) :
    LotLaw (l.creditedAt t) :=
  { h with
    fresh := fun elsewhere => absurd (LotState.inLane_of_credited credited) (by rw [show l.state.inLane = false from elsewhere]; nofun)
    age := satAdd_le _ _ _
    maturity := by
      cases t with
      | none => exact h.maturity
      | some t => exact satAdd_le _ _ _
    hotMinutes := by
      cases t with
      | none => exact h.hotMinutes
      | some t =>
        simp only [Lot.creditedAt]
        split
        · exact satAdd_le _ _ _
        · exact h.hotMinutes
    cured := fun state => (h.grows_creditedAt t).meetsCriteria (h.cured state) }

theorem creditLots_ages (temperatures : Bay → Option Int) (s : State) : HallAges s (creditLots temperatures s) := by
  intro h
  have m : LotsMapped (Lot.afterCredit temperatures) s (creditLots temperatures s) := by
    refine ⟨rfl, fun l _ => ?_⟩
    rcases l.afterCredit_cases temperatures with ⟨-, t, e⟩ | e <;> simp [e, Lot.creditedAt]
  refine ⟨m.hallParts_of_kept h {} rfl (fun _ => rfl) rfl rfl (fun l _ => ?_) (fun l hl => ?_), fun k hk => ?_⟩
  · rcases l.afterCredit_cases temperatures with ⟨-, t, e⟩ | e <;> simp [e, Lot.creditedAt]
  · rcases l.afterCredit_cases temperatures with ⟨credited, t, e⟩ | e <;> rw [e]
    · exact (h.lots l hl).creditedAt credited t
    · exact h.lots l hl
  · obtain ⟨l, hl, rfl⟩ := m.mem_iff.1 hk
    refine ⟨l, hl, ?_⟩
    rcases l.afterCredit_cases temperatures with ⟨-, t, e⟩ | e <;> rw [e]
    · exact ⟨(h.lots l hl).grows_creditedAt t, l.state.reaches_refl⟩
    · exact .refl l

/-! ### The decisions -/

/-- What the CURED and OVERDUE decisions can do (R98, R99). -/
theorem Lot.decidedState_cases (l : Lot) : l.decidedState = l.state
    ∨ ((l.state = .curing ∨ l.state = .overdue) ∧ l.decidedState = .cured ∧ l.meetsCriteria = true)
    ∨ (l.state = .curing ∧ l.decidedState = .overdue) := by
  unfold Lot.decidedState
  cases l.state <;> dsimp only
  case curing =>
    split
    · next meets => exact .inr (.inl ⟨.inl rfl, rfl, meets⟩)
    · split
      · exact .inr (.inr ⟨rfl, rfl⟩)
      · exact .inl rfl
  case overdue =>
    split
    · next meets => exact .inr (.inl ⟨.inr rfl, rfl, meets⟩)
    · exact .inl rfl
  all_goals exact .inl rfl

theorem Lot.decidedState_reaches (l : Lot) : l.decidedState ∈ l.state.reaches := by
  rcases l.decidedState_cases with e | ⟨old | old, e, -⟩ | ⟨old, e⟩
  · exact e ▸ l.state.reaches_refl
  all_goals simp [e, old, LotState.reaches]

theorem Lot.decidedState_credited {l : Lot} (h : l.state.credited = true) : l.decidedState.credited = true := by
  rcases l.decidedState_cases with e | ⟨-, e, -⟩ | ⟨-, e⟩
  · exact e ▸ h
  all_goals simp [e, LotState.credited]

theorem Lot.decidedState_holdable {l : Lot} (h : l.state.holdable = true) : l.decidedState.holdable = true := by
  rcases l.decidedState_cases with e | ⟨-, e, -⟩ | ⟨-, e⟩
  · exact e ▸ h
  all_goals simp [e, LotState.holdable]

theorem Lot.decidedState_eq_claimed {l : Lot} : l.decidedState = .claimed ↔ l.state = .claimed := by
  rcases l.decidedState_cases with e | ⟨old | old, e, -⟩ | ⟨old, e⟩
  · rw [e]
  all_goals simp [e, old]

theorem Lot.decidedState_of_cured {l : Lot} (h : l.state = .cured) : l.decidedState = .cured := by
  simp [Lot.decidedState, h]

/-- A lot decided CURED meets its criteria, as does one that was CURED or CLAIMED (R98). -/
theorem LotLaw.decidedState_cured {l : Lot} (h : LotLaw l) (state : l.decidedState = .cured ∨ l.decidedState = .claimed) :
    l.meetsCriteria = true := by
  rcases l.decidedState_cases with e | ⟨-, -, meets⟩ | ⟨-, e⟩
  · exact h.cured (e ▸ state)
  · exact meets
  · simp [e] at state

theorem LotLaw.decided {l : Lot} (h : LotLaw l) (credited : l.state.credited = true) : LotLaw (l.withState l.decidedState) :=
  h.restate (r := l.hold)
    ((LotState.inLane_of_credited (Lot.decidedState_credited credited)).trans (LotState.inLane_of_credited credited).symm)
    (fun held => Lot.decidedState_holdable (h.holdable held)) h.decidedState_cured

/-- The record that a hot auto-hold leaves of an unheld lot (R100). -/
def Lot.heldForHeat (l : Lot) : Lot :=
  { l with hotHeld := true, hold := some .hot, state := if l.state = .claimed then .cured else l.state }

/-- The state that a hot auto-hold leaves (R100). -/
theorem Lot.heldForHeat_state_cases (l : Lot) :
    (l.state = .claimed ∧ l.heldForHeat.state = .cured) ∨ (l.state ≠ .claimed ∧ l.heldForHeat.state = l.state) := by
  by_cases h : l.state = .claimed <;> simp [Lot.heldForHeat, h]

theorem Lot.heldForHeat_state_holdable {l : Lot} (h : l.state.credited = true) : l.heldForHeat.state.holdable = true := by
  rcases l.heldForHeat_state_cases with ⟨-, e⟩ | ⟨other, e⟩ <;> rw [e]
  · rfl
  · revert h other
    cases l.state <;> decide

theorem Lot.ages_heldForHeat (l : Lot) : l.Ages l.heldForHeat := by
  refine ⟨⟨rfl, le_rfl, le_rfl, le_rfl, le_rfl, le_rfl, le_rfl, id, id, fun _ => rfl⟩, ?_⟩
  rcases l.heldForHeat_state_cases with ⟨old, e⟩ | ⟨-, e⟩ <;> rw [e]
  · simp [old, LotState.reaches]
  · exact l.state.reaches_refl

theorem LotLaw.heldForHeat {l : Lot} (h : LotLaw l) (credited : l.state.credited = true) : LotLaw l.heldForHeat :=
  have holdable := Lot.heldForHeat_state_holdable credited
  have standing : l.heldForHeat.state.inLane = true := LotState.inLane_of_holdable holdable
  { h with
    placed := h.placed.trans ((LotState.inLane_of_credited credited).trans standing.symm)
    holdable := fun _ => holdable
    fresh := fun elsewhere => absurd (standing.symm.trans elsewhere) nofun
    cured := fun state => by
      rcases l.heldForHeat_state_cases with ⟨old, -⟩ | ⟨-, e⟩
      · exact h.cured (.inr old)
      · exact h.cured (e ▸ state) }

/-- The state after the CURED, OVERDUE and heat decisions on the lot l, which leave it as new: the queue stays, or the lot was held for
heat and has left it. -/
structure HeatJudged (l new : Lot) (s t : State) : Prop where
  serial : new.serial = l.serial
  line : new.line = l.line
  place : new.place = l.place
  law : LotLaw new
  ages : l.Ages new
  lots : t.lots = replaceLot new s.lots
  parameters : SameParameters s t
  lines : t.lines = s.lines
  lanes : ∀ b : Bay, t.lanes[b].lots = s.lanes[b].lots
  claims : ClaimsFit l new s t
  queue : (t.queue = s.queue ∧ new.hold = l.hold ∧ new.state = l.decidedState)
    ∨ (t.queue = s.queue.filter (· ≠ l.serial) ∧ new.hold ≠ none)

theorem judgeHeat_judged {s : State} {l : Lot} (h : HallParts s) (mem : l ∈ s.lots) (credited : l.state.credited = true) :
    ∃ new, HeatJudged l new s
      (judgeHeat (l.withState l.decidedState) (changeLot l.serial (Lot.withState l.decidedState) s)) := by
  have law := (h.lots l mem).decided credited
  have ages : l.Ages (l.withState l.decidedState) := Lot.ages_withState l.decidedState_reaches
  have r : LotReplaced l (l.withState l.decidedState) s (changeLot l.serial (Lot.withState l.decidedState) s) :=
    ⟨mem, rfl, h.serials.map_changed mem rfl⟩
  have again {f : Lot → Lot} (serial : (f (l.withState l.decidedState)).serial = l.serial) :
      (changeLot l.serial f (changeLot l.serial (Lot.withState l.decidedState) s)).lots
        = replaceLot (f (l.withState l.decidedState)) s.lots := by
    refine ((r.mapped.serialLaw rfl h.serials).map_changed r.new_mem serial).trans ?_
    rw [r.lots, replaceLot_replaceLot (a := l.withState l.decidedState) serial]
  unfold judgeHeat
  split
  case isFalse _ =>
    exact ⟨l.withState l.decidedState,
      { serial := rfl, line := rfl, place := rfl, law := law, ages := ages, lots := r.lots, parameters := {}, lines := rfl
        lanes := fun _ => rfl, claims := .kept h mem rfl rfl Lot.decidedState_eq_claimed, queue := .inl ⟨rfl, rfl, rfl⟩ }⟩
  case isTrue _ =>
    split
    case h_2 reason _ =>
      exact ⟨{ l.withState l.decidedState with hotHeld := true },
        { serial := rfl, line := rfl, place := rfl
          law := { law with }
          ages := ages.trans ⟨⟨rfl, le_rfl, le_rfl, le_rfl, le_rfl, le_rfl, le_rfl, id, id, fun _ => rfl⟩, LotState.reaches_refl _⟩
          lots := again rfl, parameters := {}, lines := rfl, lanes := fun _ => rfl
          claims := .kept h mem rfl rfl Lot.decidedState_eq_claimed, queue := .inl ⟨rfl, rfl, rfl⟩ }⟩
    case h_1 _ =>
      have unclaimed : (l.withState l.decidedState).heldForHeat.state ≠ .claimed :=
        LotState.ne_claimed_of_holdable (Lot.heldForHeat_state_holdable (Lot.decidedState_credited credited))
      unfold holdForHeat
      refine ⟨(l.withState l.decidedState).heldForHeat, ?_⟩
      split
      case isTrue _ =>
        exact
          { serial := rfl, line := rfl, place := rfl, law := law.heldForHeat (Lot.decidedState_credited credited)
            ages := ages.trans (Lot.ages_heldForHeat _)
            lots := again (f := Lot.heldForHeat) rfl, parameters := {}, lines := rfl, lanes := fun _ => rfl
            claims := .ended h rfl unclaimed, queue := .inr ⟨rfl, nofun⟩ }
      case isFalse other =>
        exact
          { serial := rfl, line := rfl, place := rfl, law := law.heldForHeat (Lot.decidedState_credited credited)
            ages := ages.trans (Lot.ages_heldForHeat _)
            lots := again (f := Lot.heldForHeat) rfl, parameters := {}, lines := rfl, lanes := fun _ => rfl
            claims := .kept h mem rfl rfl (iff_of_false unclaimed (mt Lot.decidedState_eq_claimed.2 other))
            queue := .inr ⟨rfl, nofun⟩ }

/-- The lot's decisions and its join keep the laws (R98 to R101). -/
theorem judgeCredited_ages {s : State} {l : Lot} (mem : l ∈ s.lots) (credited : l.state.credited = true) :
    HallAges s (judgeCredited l s) := by
  intro h
  obtain ⟨new, j⟩ := judgeHeat_judged h mem credited
  unfold judgeCredited
  generalize judgeHeat (l.withState l.decidedState) (changeLot l.serial (Lot.withState l.decidedState) s) = u at j ⊢
  have r : LotReplaced l new s u := ⟨mem, j.serial, j.lots⟩
  have found : u.lot? l.serial = some new :=
    (r.mapped.serialLaw j.parameters.nextSerial h.serials).lot?_eq_some_iff.2 ⟨r.new_mem, j.serial⟩
  have c {t : State} (same : t = { u with queue := t.queue }) (queue : QueueFits l new s t) : LaneLotChanged l new s t :=
    { mem := mem, serial := j.serial, line := j.line, place := j.place, law := j.law
      lots := by rw [same]; exact j.lots
      parameters := by rw [same]; exact { j.parameters with }
      lines := by rw [same]; exact j.lines
      lanes := by rw [same]; exact j.lanes
      standing := LotState.inLane_of_credited credited
      queue := queue
      claims := by rw [same]; exact { j.claims with } }
  unfold judgeJoin
  simp only [found]
  split
  case isTrue joins =>
    obtain ⟨ready, front⟩ : new.ready = true ∧ new.atFront = true := by simpa using joins
    refine (c (t := joinTail l.serial u) rfl ?_).aged h j.ages
    rcases j.queue with ⟨queue, -, -⟩ | ⟨-, held⟩
    · exact .joined h (by simp only [joinTail, queue]) ready front
    · exact absurd (Lot.ready_iff.1 ready).2 held
  case isFalse stays =>
    have unready (front : l.atFront = true) : ¬ new.ready = true := by
      intro ready
      exact stays (by simp [ready, Lot.atFront_congr j.place, front])
    refine (c (t := u) rfl ?_).aged h j.ages
    rcases j.queue with ⟨queue, hold, state⟩ | ⟨queue, held⟩
    · refine .kept h mem j.place queue fun front => iff_of_false (unready front) fun ready => unready front ?_
      obtain ⟨cured, unheld⟩ := Lot.ready_iff.1 ready
      exact Lot.ready_iff.2 ⟨state.trans (Lot.decidedState_of_cured cured), hold.trans unheld⟩
    · exact .left h queue (by simp [Lot.ready, held])

theorem judgeLot_ages (serial : Nat) (s : State) : HallAges s (judgeLot serial s) := by
  unfold judgeLot
  split
  case h_1 l found =>
    split
    case isTrue credited => exact judgeCredited_ages (mem_of_lot? s found).1 credited
    case isFalse _ => exact .refl s
  case h_2 => exact .refl s

theorem judgeLots_ages (serials : List Nat) (s : State) : HallAges s (judgeLots serials s) := by
  induction serials generalizing s with
  | nil => exact .refl s
  | cons serial rest ih => exact (judgeLot_ages serial s).trans (ih _)

/-- R89: an interval event. -/
theorem takeInterval_ages (s : State) : HallAges s (takeInterval s) := by
  have raised : SameHall s (raisePlantMinute s) := {}
  have credited : HallAges s (creditLots (fun b => s.lanes[b].temperature s.staleLimit) (judgeLanes (raisePlantMinute s))) :=
    (raised.trans (same_judgeLanes _)).ages.trans (creditLots_ages _ _)
  exact (credited.trans (judgeLots_ages s.lotsInLaneOrder _)).then_same
    ((same_reportOverdue _).trans <| (same_reportStale _).trans <| same_reportQueue _)

/-- R88: a second event. -/
theorem takeSecond_ages (s : State) : HallAges s (takeSecond s) := by
  have counted : SameHall s (countSecond s) := {}
  have run : HallAges s (runClaims (runWindows (countSecond s))) :=
    counted.ages.trans <| (runWindows_ages _).trans <| runClaims_ages _
  unfold takeSecond
  dsimp only
  split
  · exact run.trans (takeInterval_ages _)
  · exact run

end Sys2Proof.Machine
end

section
/-! ## The starts (R17, R69, R126, R169) -/

namespace Sys2Proof.Machine

open Sys2Proof

/-! ### The warm actions -/

/-- A lot after warm action 1. -/
def Lot.voided (l : Lot) : Lot := if l.state = .dosed then l.withState .void else l

/-- A lot after warm action 2. -/
def Lot.unclaimed (l : Lot) : Lot := if l.state = .claimed then l.withState .cured else l

/-- A lot after warm action 3. -/
def Lot.afterOutage (l : Lot) : Lot := if l.state.credited then l.interruptedOnce else l

theorem Lot.voided_cases (l : Lot) :
    (l.state = .dosed ∧ l.voided = l.withState .void) ∨ (l.state ≠ .dosed ∧ l.voided = l) := by
  by_cases h : l.state = .dosed <;> simp [Lot.voided, h]

theorem Lot.unclaimed_cases (l : Lot) :
    (l.state = .claimed ∧ l.unclaimed = l.withState .cured) ∨ (l.state ≠ .claimed ∧ l.unclaimed = l) := by
  by_cases h : l.state = .claimed <;> simp [Lot.unclaimed, h]

theorem Lot.afterOutage_cases (l : Lot) :
    (l.state.credited = true ∧ l.afterOutage = l.interruptedOnce) ∨ l.afterOutage = l := by
  by_cases h : l.state.credited = true <;> simp [Lot.afterOutage, h]

@[simp] theorem Lot.voided_serial (l : Lot) : l.voided.serial = l.serial := by
  rcases l.voided_cases with ⟨-, e⟩ | ⟨-, e⟩ <;> simp [e]

@[simp] theorem Lot.voided_place (l : Lot) : l.voided.place = l.place := by
  rcases l.voided_cases with ⟨-, e⟩ | ⟨-, e⟩ <;> simp [e]

@[simp] theorem Lot.voided_ready (l : Lot) : l.voided.ready = l.ready := by
  rcases l.voided_cases with ⟨_, e⟩ | ⟨-, e⟩ <;> simp [Lot.ready, *]

theorem Lot.voided_claimed_iff (l : Lot) : l.voided.state = .claimed ↔ l.state = .claimed := by
  rcases l.voided_cases with ⟨_, e⟩ | ⟨-, e⟩ <;> simp [*]

theorem Lot.ages_voided (l : Lot) : l.Ages l.voided := by
  rcases l.voided_cases with ⟨dosed, e⟩ | ⟨-, e⟩ <;> rw [e]
  · exact Lot.ages_withState (by simp [dosed, LotState.reaches])
  · exact .refl l

theorem LotLaw.voided {l : Lot} (h : LotLaw l) : LotLaw l.voided := by
  rcases l.voided_cases with ⟨dosed, e⟩ | ⟨-, e⟩ <;> rw [e]
  · have unheld : l.hold = none := h.hold_eq_none (by simp [dosed, LotState.holdable])
    exact h.restate (st := .void) (r := l.hold) (by simp [dosed, LotState.inLane]) (absurd unheld) (by simp)
  · exact h

theorem voidDoses_mapped (s : State) : LotsMapped Lot.voided s (voidDoses s) := ⟨rfl, fun l _ => l.voided_serial⟩

theorem voidDoses_lines_get (s : State) (n : Line) : (voidDoses s).lines[n] = s.lines[n].voided := by simp [voidDoses]

/-- Every line that held a DOSED lot holds it VOID (R69). -/
theorem voidDoses_lineLaw {s : State} (h : LineLaw s) : LineLaw (voidDoses s) where
  names n := by
    have live {l : Lot} (hl : l ∈ s.lots) : l.voided ∈ (voidDoses s).lots := (voidDoses_mapped s).mem_iff.2 ⟨l, hl, rfl⟩
    rw [voidDoses_lines_get]
    cases record : s.lines[n] with
    | idle => trivial
    | dosed serial remaining warning =>
      obtain ⟨-, l, hl, rfl, dosed, rfl⟩ := h.exists_of_dosed record
      have voided : l.voided = l.withState .void := by simp [Lot.voided, dosed]
      exact ⟨l.withState .void, voided ▸ live hl, rfl, rfl, rfl⟩
    | void serial =>
      obtain ⟨l, hl, rfl, void, rfl⟩ := h.exists_of_void record
      have unchanged : l.voided = l := by simp [Lot.voided, void]
      exact ⟨l, unchanged ▸ live hl, rfl, void, rfl⟩
  ofLots k hk := by
    obtain ⟨l, hl, rfl⟩ := (voidDoses_mapped s).mem_iff.1 hk
    obtain ⟨named, blocked⟩ := h.ofLots l hl
    rcases l.voided_cases with ⟨dosed, e⟩ | ⟨other, e⟩ <;> rw [e]
    · obtain ⟨_, _, record⟩ := named dosed
      exact ⟨nofun, fun _ => (voidDoses_lines_get s _).trans (congrArg LineRecord.voided record)⟩
    · exact ⟨fun dosed => absurd dosed other,
        fun void => (voidDoses_lines_get s _).trans (congrArg LineRecord.voided (blocked void))⟩

/-- R69: every DOSED lot and its line are VOID. -/
theorem voidDoses_ages (s : State) : HallAges s (voidDoses s) := by
  intro h
  have m := voidDoses_mapped s
  refine ⟨?_, fun k hk => ?_⟩
  · exact
      { serials := m.serialLaw rfl h.serials
        lots := m.lotLaw fun l hl => (h.lots l hl).voided
        lines := voidDoses_lineLaw h.lines
        lanes := m.laneLaw (fun _ => rfl) (fun _ => rfl) (fun l _ => l.voided_place) h.lanes
        queue := by
          refine m.queueLaw h.queue.distinct (fun serial queued => ?_) (fun l hl => ?_)
          · obtain ⟨l, hl, same, -⟩ := (h.queue.exact serial).1 queued
            exact ⟨l, hl, same⟩
          · rw [l.voided_ready, Lot.atFront_congr l.voided_place]
            exact h.mem_queue_iff hl
        claims := by
          refine m.claimLaw h.claims.list h.claims.live (fun l hl => ?_) (fun l hl state => ?_)
          · rw [l.voided_claimed_iff]
            exact h.claims.exact l hl
          · rw [Lot.atFront_congr l.voided_place]
            exact h.claims.front l hl (l.voided_claimed_iff.1 state)
        parameters := SameParameters.parameterLaw {} h.parameters
        recipes := h.recipes }
  · obtain ⟨l, hl, rfl⟩ := m.mem_iff.1 hk
    exact ⟨l, hl, l.ages_voided⟩

@[simp] theorem Lot.unclaimed_serial (l : Lot) : l.unclaimed.serial = l.serial := by
  rcases l.unclaimed_cases with ⟨-, e⟩ | ⟨-, e⟩ <;> simp [e]

@[simp] theorem Lot.unclaimed_line (l : Lot) : l.unclaimed.line = l.line := by
  rcases l.unclaimed_cases with ⟨-, e⟩ | ⟨-, e⟩ <;> simp [e]

@[simp] theorem Lot.unclaimed_place (l : Lot) : l.unclaimed.place = l.place := by
  rcases l.unclaimed_cases with ⟨-, e⟩ | ⟨-, e⟩ <;> simp [e]

theorem Lot.unclaimed_state_ne (l : Lot) : l.unclaimed.state ≠ .claimed := by
  rcases l.unclaimed_cases with ⟨-, e⟩ | ⟨other, e⟩ <;> rw [e]
  · simp
  · exact other

theorem Lot.ages_unclaimed (l : Lot) : l.Ages l.unclaimed := by
  rcases l.unclaimed_cases with ⟨claimed, e⟩ | ⟨-, e⟩ <;> rw [e]
  · exact Lot.ages_withState (by simp [claimed, LotState.reaches])
  · exact .refl l

/-- A CLAIMED lot is unheld (R2). -/
theorem LotLaw.hold_of_claimed {l : Lot} (h : LotLaw l) (claimed : l.state = .claimed) : l.hold = none :=
  h.hold_eq_none (by simp [claimed, LotState.holdable])

theorem LotLaw.unclaimed {l : Lot} (h : LotLaw l) : LotLaw l.unclaimed := by
  rcases l.unclaimed_cases with ⟨claimed, e⟩ | ⟨-, e⟩ <;> rw [e]
  · exact h.restate (st := .cured) (r := l.hold) (by simp [claimed, LotState.inLane]) (absurd (h.hold_of_claimed claimed))
      fun _ => h.cured (.inr claimed)
  · exact h

theorem LotLaw.unclaimed_ready_iff {l : Lot} (h : LotLaw l) : l.unclaimed.ready = true ↔ l.state = .claimed ∨ l.ready = true := by
  rcases l.unclaimed_cases with ⟨claimed, e⟩ | ⟨other, e⟩ <;> rw [e]
  · simp [Lot.ready, claimed, h.hold_of_claimed claimed]
  · simp [other]

theorem returnClaims_mapped (s : State) : LotsMapped Lot.unclaimed s (returnClaims s) := ⟨rfl, fun l _ => l.unclaimed_serial⟩

/-- R126: the queue holds the lots that were claimed and those it held, no lot twice. -/
theorem returnClaims_queueLaw {s : State} (h : HallParts s) : QueueLaw (returnClaims s) := by
  refine (returnClaims_mapped s).queueLaw (List.nodup_append.2 ⟨h.claims.list.serials, h.queue.distinct, ?_⟩) ?_ ?_
  · rintro serial named _ queued rfl
    obtain ⟨l, hl, rfl⟩ := h.claims.live serial named
    have claimed := (h.claims.exact l hl).1 named
    have cured := (Lot.ready_iff.1 ((h.mem_queue_iff hl).1 queued).1).1
    exact absurd (claimed.symm.trans cured) nofun
  · intro serial mem
    rcases List.mem_append.1 mem with named | queued
    · exact h.claims.live serial named
    · obtain ⟨l, hl, same, -⟩ := (h.queue.exact serial).1 queued
      exact ⟨l, hl, same⟩
  · intro l hl
    rw [Lot.atFront_congr l.unclaimed_place, (h.lots l hl).unclaimed_ready_iff]
    refine List.mem_append.trans ?_
    rw [h.claims.exact l hl, h.mem_queue_iff hl, or_and_right, and_iff_left_of_imp (h.claims.front l hl)]

/-- R126: every claim's lot is CURED and in the queue, and no claim is open. -/
theorem returnClaims_ages (s : State) : HallAges s (returnClaims s) := by
  intro h
  have m := returnClaims_mapped s
  have no_claims : ClaimListLaw (returnClaims s).claims := ⟨Nat.zero_le _, List.nodup_nil, List.nodup_nil, nofun⟩
  refine ⟨?_, fun k hk => ?_⟩
  · exact
      { serials := m.serialLaw rfl h.serials
        lots := m.lotLaw fun l hl => (h.lots l hl).unclaimed
        lines := by
          refine m.lineLaw rfl (fun l _ => l.unclaimed_line) (fun l _ => ?_) (fun l _ => ?_) h.lines
          all_goals rcases l.unclaimed_cases with ⟨_, e⟩ | ⟨-, e⟩ <;> simp [*]
        lanes := m.laneLaw (fun _ => rfl) (fun _ => rfl) (fun l _ => l.unclaimed_place) h.lanes
        queue := returnClaims_queueLaw h
        claims := m.claimLaw no_claims nofun (fun l _ => iff_of_false nofun l.unclaimed_state_ne)
          fun l _ claimed => absurd claimed l.unclaimed_state_ne
        parameters := SameParameters.parameterLaw {} h.parameters
        recipes := h.recipes }
  · obtain ⟨l, hl, rfl⟩ := m.mem_iff.1 hk
    exact ⟨l, hl, l.ages_unclaimed⟩

/-- R17: the outage is counted and flagged. -/
theorem countOutages_ages (s : State) : HallAges s (countOutages s) := by
  intro h
  have m : LotsMapped Lot.afterOutage s (countOutages s) := by
    refine ⟨rfl, fun l _ => ?_⟩
    rcases l.afterOutage_cases with ⟨-, e⟩ | e <;> simp [e, Lot.interruptedOnce]
  refine ⟨m.hallParts_of_kept h {} rfl (fun _ => rfl) rfl rfl (fun l _ => ?_) (fun l hl => ?_), fun k hk => ?_⟩
  · rcases l.afterOutage_cases with ⟨-, e⟩ | e <;> simp [e, Lot.interruptedOnce]
  · rcases l.afterOutage_cases with ⟨credited, e⟩ | e <;> rw [e]
    · have law := h.lots l hl
      have standing := LotState.inLane_of_credited credited
      exact
        { law with
          fresh := fun elsewhere => absurd (standing.symm.trans elsewhere) nofun
          outages := satAdd_le _ _ _
          interrupted := by simp [Lot.interruptedOnce, satAdd] }
    · exact h.lots l hl
  · obtain ⟨l, hl, rfl⟩ := m.mem_iff.1 hk
    refine ⟨l, hl, ?_⟩
    rcases l.afterOutage_cases with ⟨-, e⟩ | e <;> rw [e]
    · exact ⟨⟨rfl, le_rfl, le_rfl, le_rfl, le_rfl, le_satAdd (h.lots l hl).outages 1, le_rfl, id, fun _ => rfl, id⟩,
        l.state.reaches_refl⟩
    · exact .refl l

theorem same_emptyUnretained (s : State) : SameHall s (emptyUnretained s) :=
  (same_lanes s (f := Lane.withoutReading) (fun _ => rfl) fun _ => rfl).trans {}

theorem warmActions_ages (s : State) : HallAges s (warmActions s) :=
  (voidDoses_ages s).trans <| (returnClaims_ages _).trans <| (countOutages_ages _).then_same (same_emptyUnretained _)

/-! ### The cold actions -/

theorem admits_coldStart (f : RecipeField) : f.admits (Recipe.coldStart.get f) = true := by cases f <;> decide

/-- An empty hall with the cold-start parameters meets every law. -/
theorem coldActions_ages (s : State) : HallAges s (coldActions s) := by
  intro _
  refine ⟨?_, by simp [coldActions]⟩
  exact
    { serials := by constructor <;> simp [coldActions]
      lots := by simp [coldActions]
      lines := by constructor <;> simp [coldActions, LineNames]
      lanes := by constructor <;> simp [coldActions, Lane.coldStart]
      queue := by constructor <;> simp [coldActions]
      claims := by
        constructor
        · constructor <;> simp [coldActions]
        all_goals simp [coldActions]
      parameters := by constructor <;> simp [coldActions, LineLimits.coldStart, Lane.coldStart, Config.coldStaleLimit,
        Config.coldCapacity, Config.coldClaimTimeout]
      recipes := fun k => by
        have cold : (coldActions s).recipes[k] = Recipe.coldStart := by simp [coldActions]
        rw [cold]
        exact ⟨admits_coldStart, by decide⟩ }

/-- R166, R169: a completed start. -/
theorem completeStart_ages (s : State) : HallAges s (completeStart s) := by
  have actions : HallAges s (startActions s) := by
    unfold startActions
    split
    · exact coldActions_ages s
    · exact warmActions_ages s
  exact actions.then_same (same_startCompleted _ _)

end Sys2Proof.Machine
end

section
/-! ## Parameters and recipes (R21 to R29, R47 to R50, R77, R78, R120) -/

namespace Sys2Proof.Machine

open Sys2Proof

/-! ### A recipe's fields -/

theorem RecipeField.admits_iff {f : RecipeField} {v : Int} : f.admits v = true ↔ f.low ≤ v ∧ v ≤ f.high := by
  simp [RecipeField.admits]

/-- A field written with a value of its range reads as that value (R24). -/
theorem Recipe.get_put_self {f : RecipeField} {v : Int} (h : f.admits v = true) (r : Recipe) : (r.put f v).get f = v := by
  obtain ⟨low, high⟩ := RecipeField.admits_iff.1 h
  cases f <;> simp only [RecipeField.low, RecipeField.high] at low high <;> simp only [Recipe.put, Recipe.get]
  case sources =>
    rw [BitVec.toNat_ofInt]
    omega
  all_goals omega

/-- A write leaves every other field. -/
theorem Recipe.get_put_of_ne {f g : RecipeField} (other : g ≠ f) (v : Int) (r : Recipe) : (r.put f v).get g = r.get g := by
  cases f <;> cases g <;> simp [Recipe.put, Recipe.get] at other ⊢

@[simp] theorem Recipe.put_enabled (r : Recipe) (f : RecipeField) (v : Int) : (r.put f v).enabled = r.enabled := by
  cases f <;> rfl

@[simp] theorem Recipe.withEnabled_get (r : Recipe) (b : Bool) (f : RecipeField) : (r.withEnabled b).get f = r.get f := by
  cases f <;> rfl

theorem setRecipe_recipes_get (s : State) (k m : RecipeNo) (r : Recipe) :
    (setRecipe k r s).recipes[m] = if m = k then r else s.recipes[m] := by
  simp only [setRecipe, Fin.getElem_fin, Vector.getElem_set, Fin.ext_iff, eq_comm]

theorem setLimits_limits_get (s : State) (n m : Line) (lim : LineLimits) :
    (setLimits n lim s).limits[m] = if m = n then lim else s.limits[m] := by
  simp only [setLimits, Fin.getElem_fin, Vector.getElem_set, Fin.ext_iff, eq_comm]

/-! ### Changes of the parameters -/

/-- t has the lots, lines, lanes, queue and claims of s, and its parameters are lawful. -/
structure Reparametrized (s t : State) : Prop where
  lots : t.lots = s.lots := by rfl
  nextSerial : t.nextSerial = s.nextSerial := by rfl
  lines : t.lines = s.lines := by rfl
  lanes : ∀ b : Bay, t.lanes[b].lots = s.lanes[b].lots := by exact fun _ => rfl
  queue : t.queue = s.queue := by rfl
  claims : t.claims = s.claims := by rfl
  room : LaneLaw s → ∀ b : Bay, s.lanes[b].lots.length ≤ t.lanes[b].capacity := by exact fun h => h.room
  parameters : ParameterLaw s → ParameterLaw t := by exact fun h => { h with }
  recipes : RecipeLaw s → RecipeLaw t := by exact id

theorem Reparametrized.ages {s t : State} (r : Reparametrized s t) : HallAges s t := by
  intro h
  refine ⟨?_, fun m hm => ⟨m, r.lots ▸ hm, .refl m⟩⟩
  exact h.congr r.lots r.queue r.nextSerial (h.lines.congr r.lots r.lines) (h.lanes.congr r.lots r.lanes (r.room h.lanes))
    (h.claims.congr r.lots r.claims) (r.parameters h.parameters) (r.recipes h.recipes)

/-- A recipe takes a record within its ranges, consistent if enabled (R21, R27). -/
theorem setRecipe_ages {s : State} {k : RecipeNo} {r : Recipe}
    (law : RecipeLaw s → (∀ f : RecipeField, f.admits (r.get f) = true) ∧ (r.enabled = true → r.failedCondition = 0)) :
    HallAges s (setRecipe k r s) :=
  Reparametrized.ages
    { recipes := by
        intro h m
        rw [setRecipe_recipes_get]
        split
        · exact law h
        · exact h m }

theorem takeRcpw_ages (args : List Byte) (s : State) : HallAges s (takeRcpw args s).state := by
  unfold takeRcpw
  split
  case h_1 => exact .refl s
  case h_2 r id unsigned signed _ =>
    split
    case h_2 => exact .refl s
    case h_1 k f _ _ =>
      split_ifs with range enabled
      · exact .refl s
      · exact .refl s
      · have admitted : f.admits (fieldValue f unsigned signed) = true := by simpa using range
        refine setRecipe_ages fun law => ⟨fun g => ?_, fun on => absurd on (by simpa using enabled)⟩
        by_cases same : g = f
        · rw [same, Recipe.get_put_self admitted]
          exact admitted
        · rw [Recipe.get_put_of_ne same]
          exact (law k).1 g

theorem takeRcpe_ages (args : List Byte) (s : State) : HallAges s (takeRcpe args s).state := by
  unfold takeRcpe
  split
  case h_1 => exact .refl s
  case h_2 k _ =>
    split_ifs with enabled consistent
    · exact .refl s
    · refine setRecipe_ages fun law => ⟨fun g => ?_, fun _ => consistent⟩
      rw [Recipe.withEnabled_get]
      exact (law k).1 g
    · exact .refl s

theorem takeRcpd_ages (args : List Byte) (s : State) : HallAges s (takeRcpd args s).state := by
  unfold takeRcpd
  split
  case h_1 => exact .refl s
  case h_2 k _ =>
    refine setRecipe_ages fun law => ⟨fun g => ?_, nofun⟩
    rw [Recipe.withEnabled_get]
    exact (law k).1 g

theorem takeRcpr_ages (args : List Byte) (s : State) : HallAges s (takeRcpr args s).state := by
  unfold takeRcpr
  split
  · exact .refl s
  · split <;> exact .refl s

/-- A line takes other limits, lawful where the old ones are (R49). -/
theorem setLimits_ages {s : State} {n : Line} {lim : LineLimits}
    (cement : 50 ≤ s.limits[n].cementMax ∧ s.limits[n].cementMax ≤ 4000 → 50 ≤ lim.cementMax ∧ lim.cementMax ≤ 4000)
    (water : 50 ≤ s.limits[n].waterMax ∧ s.limits[n].waterMax ≤ 4000 → 50 ≤ lim.waterMax ∧ lim.waterMax ≤ 4000)
    (additive : s.limits[n].additiveMax ≤ 400 → lim.additiveMax ≤ 400) : HallAges s (setLimits n lim s) := by
  refine Reparametrized.ages { parameters := fun h => ?_ }
  have limits (m : Line) := setLimits_limits_get s n m lim
  refine { h with cement := fun m => ?_, water := fun m => ?_, additive := fun m => ?_ } <;> rw [limits] <;> split
  · exact cement (h.cement n)
  · exact h.cement m
  · exact water (h.water n)
  · exact h.water m
  · exact additive (h.additive n)
  · exact h.additive m

/-- R77: an empty lane takes another capacity. -/
theorem setLane_capacity_ages {s : State} {b : Bay} {value : Nat} (range : 1 ≤ value ∧ value ≤ 6) (empty : s.lanes[b].lots = []) :
    HallAges s (setLane b { s.lanes[b] with capacity := value } s) := by
  have lanes (c : Bay) := setLane_lanes_get s b c { s.lanes[b] with capacity := value }
  refine Reparametrized.ages { lanes := fun c => ?_, room := fun h c => ?_, parameters := fun h => { h with capacity := fun c => ?_ } }
  all_goals
    rw [lanes]
    split
  · next same => rw [same]
  · rfl
  · next same =>
    rw [same, empty]
    exact Nat.zero_le _
  · exact h.room c
  · exact range
  · exact h.capacity c

theorem takeSpar_ages (args : List Byte) (s : State) : HallAges s (takeSpar args s).state := by
  unfold takeSpar
  split
  case h_1 => exact .refl s
  case h_2 parameter index value _ =>
    split
    · unfold takeCementMax
      split
      · exact .refl s
      · split_ifs with range
        · exact .refl s
        · refine setLimits_ages (fun _ => ?_) id id
          simpa using range
    · unfold takeWaterMax
      split
      · exact .refl s
      · split_ifs with range
        · exact .refl s
        · refine setLimits_ages id (fun _ => ?_) id
          simpa using range
    · unfold takeAdditiveMax
      split
      · exact .refl s
      · split_ifs with range
        · exact .refl s
        · refine setLimits_ages id id (fun _ => ?_)
          simpa using range
    · unfold takeStaleLimit
      split_ifs with range
      · exact .refl s
      · exact Reparametrized.ages { parameters := fun h => { h with staleLimit := by simp at range; dsimp only; omega } }
    · unfold takeBayCapacity
      split
      · exact .refl s
      · split_ifs with range nonempty
        · exact .refl s
        · exact .refl s
        · exact setLane_capacity_ages (by simp at range; omega) (by simpa using nonempty)
    · unfold takeClaimTimeout
      split_ifs with range
      · exact .refl s
      · exact Reparametrized.ages { parameters := fun h => { h with claimTimeout := by simp at range; dsimp only; omega } }
    · exact .refl s

end Sys2Proof.Machine
end

section
/-! ## The taking of every command -/

namespace Sys2Proof.Machine

open Sys2Proof

/-! ### DOSQ -/

theorem Dose.wet_iff {d : Dose} : d.wet = true ↔ 0 < d.excess := by simp [Dose.wet]

/-- A wet dose is fed no water (R41). -/
theorem computeDose_water_of_wet {r : Recipe} {wetAsh moisture : Nat} (wet : (computeDose r wetAsh moisture).wet = true) :
    (computeDose r wetAsh moisture).water = 0 := by
  have excess := Dose.wet_iff.1 wet
  simp only [Dose.water, computeDose] at excess ⊢
  omega

theorem lotLaw_newLot {n : Line} {q : DoseRequest} {k : RecipeNo} {r : Recipe} {wetAsh moisture serial : Nat}
    (range : RecipeField.maxAge.admits (r.get .maxAge) = true) :
    LotLaw (newLot n q k r (computeDose r wetAsh moisture) serial) where
  placed := rfl
  holdable := absurd rfl
  fresh _ := ⟨rfl, rfl, rfl, rfl, rfl⟩
  age := Nat.zero_le _
  maxAge := by
    have high := (RecipeField.admits_iff.1 range).2
    simp only [Recipe.get, RecipeField.high] at high
    simp only [newLot, Config.maxMinutes]
    omega
  maturity := Nat.zero_le _
  hotMinutes := Nat.zero_le _
  outages := Nat.zero_le _
  extensions := Nat.zero_le _
  interrupted := by simp [newLot]
  extended := by simp [newLot]
  cured := by simp [newLot]
  wet := computeDose_water_of_wet

theorem openDose_follows {s : State} {n : Line} (q : DoseRequest) (k : RecipeNo) (idle : s.lines[n] = .idle)
    (room : s.liveCount < Config.lotRecords) : HallFollows s (openDose n q k s) := by
  intro h
  have ranges := (h.recipes k).1
  have window := RecipeField.admits_iff.1 (ranges .pourWindow)
  have warning := RecipeField.admits_iff.1 (ranges .pourWarning)
  simp only [Recipe.get, RecipeField.low, RecipeField.high] at window warning
  obtain ⟨-, -, -, -, free⟩ := h.serials.allocated
  exact create_follows (new := newLot n q k s.recipes[k] (computeDose s.recipes[k] q.wetAsh q.moisture) s.allocated) idle room
    (lotLaw_newLot (ranges .maxAge)) rfl h.serials.allocated_inRange ((lot?_eq_none s).1 free) (by omega) h

theorem doseWith_follows {s : State} {n : Line} (q : DoseRequest) (k : RecipeNo) (idle : s.lines[n] = .idle)
    (room : s.liveCount < Config.lotRecords) : HallFollows s (doseWith n q k s).state := by
  unfold doseWith
  dsimp only
  split
  case h_2 | h_3 => exact openDose_follows q k idle room
  all_goals exact .refl s

theorem takeDosq_follows (n : Line) (args : List Byte) (s : State) : HallFollows s (takeDosq n args s).state := by
  unfold takeDosq
  split
  case h_1 => exact .refl s
  case h_2 q _ =>
    split
    · exact .refl s
    split
    · exact .refl s
    split
    · exact .refl s
    · exact .refl s
    · next idle =>
      split
      · exact .refl s
      · next full =>
        split
        · exact .refl s
        · exact doseWith_follows q _ idle (Nat.lt_of_not_le full)

/-! ### The mixers' other commands -/

theorem takeDsch_follows (n : Line) (args : List Byte) (s : State) : HallFollows s (takeDsch n args s).state := by
  unfold takeDsch
  split
  · exact .refl s
  · split
    · exact .refl s
    · exact .refl s
    · next record =>
      split
      · exact .refl s
      split
      · exact .refl s
      · next full => exact discharge_follows record (Nat.lt_of_not_le full)

theorem takeAbdn_ages (n : Line) (s : State) : HallAges s (takeAbdn n s).state := by
  unfold takeAbdn
  split
  · exact .refl s
  · next record =>
    intro h
    obtain ⟨-, l, mem, rfl, state, rfl⟩ := h.lines.exists_of_dosed record
    exact abandon_ages mem (by simp [state, LotState.inLane]) h
  · next record =>
    intro h
    obtain ⟨l, mem, rfl, state, rfl⟩ := h.lines.exists_of_void record
    exact abandon_ages mem (by simp [state, LotState.inLane]) h

/-! ### The hall's commands and the time of day -/

theorem takeTmpr_ages (args : List Byte) (s : State) : HallAges s (takeTmpr args s).state := by
  unfold takeTmpr
  split
  · exact .refl s
  · split
    · exact .refl s
    · exact (same_takeReading s _ _).ages
    · split
      · exact .refl s
      · exact ((same_takeReading s _ _).trans (same_takeReading _ _ _)).ages

theorem takeLaneLock_ages (locked : Bool) (args : List Byte) (s : State) : HallAges s (takeLaneLock locked args s).state := by
  unfold takeLaneLock
  split
  · exact .refl s
  · next b _ => exact (same_setLane s (b := b) (lane := s.lanes[b].withLock locked) rfl rfl).ages

theorem takeStim_ages (args : List Byte) (s : State) : HallAges s (takeStim args s).state := by
  unfold takeStim
  split
  · exact .refl s
  · next minute _ =>
    have set : SameHall s (zeroTimeBase (setPlantMinute minute s)) := {}
    exact (set.trans (same_reportTime _)).ages

/-! ### The loadout terminal's commands -/

theorem beNat_pair_le (a b : Byte) : beNat [a, b] ≤ 65535 := by
  have ha := a.isLt
  have hb := b.isLt
  simp only [beNat, List.foldl_cons, List.foldl_nil]
  omega

theorem truck?_le {args : List Byte} {truck : Nat} (h : truck? args = some truck) : truck ≤ 65535 := by
  unfold truck? at h
  split at h
  · obtain rfl := Option.some.inj h
    exact beNat_pair_le _ _
  · exact absurd h nofun

theorem takeClnx_follows (args : List Byte) (s : State) : HallFollows s (takeClnx args s).state := by
  unfold takeClnx
  split
  case h_1 => exact .refl s
  case h_2 truck given =>
    split
    · exact .refl s
    · next zero =>
      split
      case h_1 => exact .refl s
      case h_2 serial rest head =>
        split
        · exact .refl s
        · next full =>
          split
          · exact .refl s
          · next busy =>
            have claimed : HallFollows s (claimHead serial truck s) :=
              claimHead_follows head (Nat.lt_of_not_le full) ⟨Nat.pos_of_ne_zero zero, truck?_le given⟩ (by simpa using busy)
            split <;> exact claimed

theorem removeClaim_of_unclaimed {s : State} {serial : Nat} (h : serial ∉ s.claims.map (·.serial)) : removeClaim serial s = s := by
  have kept : s.claims.filter (·.serial ≠ serial) = s.claims := by
    refine List.filter_eq_self.2 fun c hc => ?_
    simp only [ne_eq, decide_eq_true_eq]
    rintro rfl
    exact h (List.mem_map_of_mem hc)
  rw [removeClaim, kept]

/-- A lot at the front of its lane, with the lots behind it. -/
theorem HallParts.fronted {s : State} (h : HallParts s) {l : Lot} (mem : l ∈ s.lots) (front : l.atFront = true) :
    ∃ behind, Fronted s l l.bay behind := by
  obtain ⟨p, at_p, position⟩ := Lot.atFront_iff.1 front
  have listed := h.lanes.listed l mem p at_p
  have bay : l.bay = p.bay := by simp [Lot.bay, at_p]
  rw [position] at listed
  obtain ⟨behind, lane⟩ := List.head?_eq_some_iff.1 (List.head?_eq_getElem?.trans listed)
  exact ⟨behind, mem, bay ▸ lane⟩

theorem same_handOver (b : Bay) (s : State) : SameHall (joinFront b s) (handOver b s) :=
  (same_reportQueue _).trans (same_reportRejected _)

/-- R116: the CLAIMED lot leaves its lane with its claim. -/
theorem confirmLot_ages {s : State} {l : Lot} (mem : l ∈ s.lots) (claimed : l.state = .claimed) (truck netMass : Nat) :
    HallAges s (confirmLot l truck netMass s) := by
  have logged : SameHall s
      { s with releaseLog := appendRecord s.releaseLog (releaseRecord l truck netMass s.plantMinute) } := {}
  refine (logged.ages.trans fun h => ?_).then_same (same_handOver _ _)
  obtain ⟨behind, f⟩ := h.fronted mem (h.claims.front l mem claimed)
  exact f.removal_ages (by simp [h.mem_queue_iff (show l ∈ _ from mem), Lot.ready, claimed]) h

theorem takeCnfm_ages (args : List Byte) (s : State) : HallAges s (takeCnfm args s).state := by
  unfold takeCnfm
  split
  · exact .refl s
  · split_ifs
    · exact .refl s
    · split
      · exact .refl s
      · next l found =>
        split_ifs with claimed
        · have state : l.state = .claimed := by
            simp only [claimedBy, Bool.and_eq_true, decide_eq_true_eq] at claimed
            exact claimed.1
          exact confirmLot_ages (mem_of_lot? s found).1 state _ _
        · exact .refl s

theorem takeRtrn_ages (args : List Byte) (s : State) : HallAges s (takeRtrn args s).state := by
  unfold takeRtrn
  split
  · exact .refl s
  · split
    · exact .refl s
    · next l found =>
      split_ifs with claimed
      · obtain ⟨mem, rfl⟩ := mem_of_lot? s found
        exact (returnClaim_ages mem claimed).then_same (same_reportQueue _)
      · exact .refl s

/-! ### The supervisor's interventions -/

theorem takeHold_ages (args : List Byte) (s : State) : HallAges s (takeHold args s).state := by
  unfold takeHold
  split
  case h_1 => exact .refl s
  case h_2 serial _ =>
    split
    case h_1 => exact .refl s
    case h_2 l found =>
      obtain ⟨mem, rfl⟩ := mem_of_lot? s found
      split
      case h_4 state => exact holdClaimed_ages mem state
      case h_1 state | h_2 state | h_3 state =>
        split
        · exact .refl s
        · exact holdLot_ages mem (by simp [state, LotState.holdable])
      all_goals exact .refl s

theorem takeUnhd_ages (args : List Byte) (s : State) : HallAges s (takeUnhd args s).state := by
  unfold takeUnhd
  split
  case h_1 => exact .refl s
  case h_2 serial _ =>
    split
    case h_1 => exact .refl s
    case h_2 l found =>
      have mem := (mem_of_lot? s found).1
      split
      case h_1 state hold | h_2 state hold | h_3 state hold =>
        exact unholdLot_ages mem (by simp [state, LotState.holdable]) (by simp [hold])
      case h_4 => exact .refl s

theorem takeRjct_ages (args : List Byte) (s : State) : HallAges s (takeRjct args s).state := by
  unfold takeRjct
  split
  case h_1 => exact .refl s
  case h_2 serial _ =>
    split
    case h_1 => exact .refl s
    case h_2 l found =>
      obtain ⟨mem, rfl⟩ := mem_of_lot? s found
      split
      case h_1 state => exact voidDose_ages mem state
      case h_2 state | h_3 state | h_4 state | h_5 state => exact rejectLot_ages mem (by simp [state, LotState.credited])
      all_goals exact .refl s

theorem takeClrb_ages (args : List Byte) (s : State) : HallAges s (takeClrb args s).state := by
  unfold takeClrb
  split
  case h_1 => exact .refl s
  case h_2 b _ =>
    split
    case h_1 => exact .refl s
    case h_2 front behind lane =>
      split_ifs with rejected
      · refine .then_same (fun h => ?_) (same_handOver _ _)
        obtain ⟨l, mem, rfl, state⟩ : ∃ l ∈ s.lots, l.serial = front ∧ l.state = .rejected := by
          unfold State.frontRejected at rejected
          rw [lane] at rejected
          simpa only [List.head?_cons, Option.any_eq_true, h.serials.lot?_eq_some_iff, decide_eq_true_eq, and_assoc] using rejected
        have f : Fronted s l b behind := ⟨mem, lane⟩
        have unclaimed : l.serial ∉ s.claims.map (·.serial) := by simp [h.claims.exact l mem, state]
        have removed := f.removal_ages (by simp [h.mem_queue_iff mem, Lot.ready, state]) h
        rwa [removeClaim_of_unclaimed unclaimed] at removed
      · exact .refl s

theorem takeExtd_ages (args : List Byte) (s : State) : HallAges s (takeExtd args s).state := by
  unfold takeExtd
  split
  case h_1 => exact .refl s
  case h_2 serial minutes _ =>
    split_ifs
    · exact .refl s
    · split
      case h_1 => exact .refl s
      case h_2 l found =>
        have mem := (mem_of_lot? s found).1
        split
        case h_1 state => exact extendLot_ages mem (.inl state) minutes
        case h_2 state => exact extendLot_ages mem (.inr state) minutes
        all_goals exact .refl s

/-! ### Every command -/

theorem takeQlot_state (args : List Byte) (s : State) : (takeQlot args s).state = s := by
  unfold takeQlot
  split
  · rfl
  · split_ifs
    · rfl
    · split <;> rfl

theorem takeQrel_state (args : List Byte) (s : State) : (takeQrel args s).state = s := by
  unfold takeQrel
  split
  · rfl
  · split_ifs
    · rfl
    · split <;> rfl

theorem same_takeAtcl (st : Station) (args : List Byte) (s : State) : SameHall s (takeAtcl st args s).state := by
  unfold takeAtcl
  split <;> exact {}

theorem same_takeAtmk (st : Station) (args : List Byte) (s : State) : SameHall s (takeAtmk st args s).state := by
  unfold takeAtmk
  split <;> exact {}

/-- The owner's taking of any command keeps the laws of the hall. -/
theorem deliver_follows (c : CommandCode) (st : Station) (args : List Byte) (s : State) :
    HallFollows s (deliver c st args s).state := by
  cases c <;> unfold deliver <;> dsimp only
  case dosq => exact takeDosq_follows _ args s
  case dsch => exact takeDsch_follows _ args s
  case abdn => exact (takeAbdn_ages _ s).follows
  case tmpr => exact (takeTmpr_ages args s).follows
  case clnx => exact takeClnx_follows args s
  case cnfm => exact (takeCnfm_ages args s).follows
  case rtrn => exact (takeRtrn_ages args s).follows
  case hold => exact (takeHold_ages args s).follows
  case unhd => exact (takeUnhd_ages args s).follows
  case rjct => exact (takeRjct_ages args s).follows
  case clrb => exact (takeClrb_ages args s).follows
  case extd => exact (takeExtd_ages args s).follows
  case lock | ulck => exact (takeLaneLock_ages _ args s).follows
  case rcpw => exact (takeRcpw_ages args s).follows
  case rcpe => exact (takeRcpe_ages args s).follows
  case rcpd => exact (takeRcpd_ages args s).follows
  case rcpr => exact (takeRcpr_ages args s).follows
  case stim => exact (takeStim_ages args s).follows
  case spar => exact (takeSpar_ages args s).follows
  case qlot => rw [takeQlot_state]; exact .refl s
  case qrel => rw [takeQrel_state]; exact .refl s
  case atcl => exact (same_takeAtcl st args s).ages.follows
  case atmk => exact (same_takeAtmk st args s).ages.follows
  case atrd => exact (show SameHall s (takeAtrd st s).state from {}).ages.follows
  case qlin | rstw | rstc => exact .refl s

end Sys2Proof.Machine
end

section
/-! ## Every step -/

namespace Sys2Proof.Machine

open Sys2Proof

/-! ### The link interface -/

theorem judgeFrame_follows (st : Station) (data : List Byte) (s : State) : HallFollows s (judgeFrame st data s).state := by
  unfold judgeFrame
  split
  · exact .refl s
  · split
    · exact .refl s
    · split
      · exact deliver_follows _ st _ s
      · exact .refl s

theorem takeCommand_follows (st : Station) (data : List Byte) (s : State) : HallFollows s (takeCommand st data s) :=
  .framed (same_setInbox s st none) (judgeFrame_follows st data _) (same_placeAnswer st _ _)

theorem arrive_follows (st : Station) (data : List Byte) (s : State) : HallFollows s (arrive st data s) := by
  unfold arrive
  split
  · exact .refl s
  · split
    · exact (same_replaceWaiting s st _).ages.follows
    · split
      · exact takeCommand_follows st _ s
      · exact (same_setInbox s st _).ages.follows

theorem receiveFrame_follows (f : RxFrame) (s : State) : HallFollows s (receiveFrame f s) := by
  unfold receiveFrame
  split
  · exact arrive_follows _ _ s
  · exact (same_requestStanding s _).ages.follows
  · exact .refl s

theorem takeWaiting_follows (st : Station) (s : State) : HallFollows s (takeWaiting st s) := by
  unfold takeWaiting
  split
  · exact takeCommand_follows st _ s
  · exact .refl s

theorem answerSent_follows (st : Station) (s : State) : HallFollows s (answerSent st s) := by
  unfold answerSent
  split
  · exact (same_beginStart s _).ages.follows
  · exact .framed (same_clearAnswer s st) (takeWaiting_follows st _) (.refl _)

theorem completeAttempt_follows (fall : ErrorFall) (straps : Straps) (s : State) :
    HallFollows s (completeAttempt fall straps s) := by
  unfold completeAttempt
  split
  · next a _ =>
    have ended := same_endAttempt s a.slot fall straps
    split
    · exact .framed ended (answerSent_follows _ _) (.refl _)
    · exact ended.ages.follows
  · exact .refl s

/-! ### Every command and event -/

theorem HallFollows.of_ite {s t : State} {p : Prop} [Decidable p] (h : p → HallFollows s t) : HallFollows s (if p then t else s) := by
  split
  case isTrue yes => exact h yes
  case isFalse _ => exact .refl s

/-- A command or event whose meaning is a next state keeps what that state does. -/
theorem HallFollows.of_next {s u t : State} (h : HallFollows s u)
    (next : (.next u : Host.Outcome State Fault Refusal) = .next t) : HallFollows s t := by
  cases next
  exact h

/-- Every command and event keeps the laws of the hall. -/
theorem exec_follows {c : Instr} {s t : State} (next : exec c s = .next t) : HallFollows s t := by
  cases c with
  | qlot st a | rcpw st a | rcpe st a | rcpd st a | rcpr st a | dosq st a | dsch st a | abdn st a | qlin st a | tmpr st a | lock st a
  | ulck st a | stim st a | clnx st a | cnfm st a | rtrn st a | qrel st a | hold st a | unhd st a | rjct st a | clrb st a | extd st a
  | cementMax st a | waterMax st a | additiveMax st a | staleLimit st a | bayCapacity st a | claimTimeout st a | atrd st a
  | atcl st a | atmk st a | rstw st a | rstc st a | unknownCommand st a | commandFrameArrival st a =>
    exact .of_next (arrive_follows st _ s) next
  | remoteRequest k => exact .of_next (same_requestStanding s k).ages.follows next
  | ignoredFrame f => exact .of_next (receiveFrame_follows f s) next
  | attemptStart =>
    refine .of_next (.of_ite fun _ => ?_) next
    split
    · exact (SameHall.ages {}).follows
    · exact .refl s
  | attemptCompletion fall straps => exact .of_next (.of_ite fun _ => completeAttempt_follows fall straps s) next
  | arbitrationLoss => exact .of_next (.of_ite fun _ => (same_failAttempt s).ages.follows) next
  | busError tecRise recRise => exact .of_next (.of_ite fun _ => (same_sufferBusError s tecRise recRise).ages.follows) next
  | busOffRecovery => exact .of_next (.of_ite fun _ => (SameHall.ages {}).follows) next
  | secondEvent => exact .of_next (.of_ite fun _ => (takeSecond_ages s).follows) next
  | pourWindowExpiry n => exact .of_next (.of_ite fun _ => (expireWindow_ages n s).follows) next
  | claimExpiry => exact .of_next (.of_ite fun _ => (expireClaims_ages s).follows) next
  | intervalEvent => exact .of_next (.of_ite fun _ => (takeInterval_ages s).follows.then_same {}) next
  | phChange asserted => exact .of_next (SameHall.ages {}).follows next
  | haltAssertionRegistered =>
    exact .of_next (.of_ite fun _ => ((same_registerHalt s true).trans (same_reportHalt _)).ages.follows) next
  | haltReleaseRegistered =>
    exact .of_next (.of_ite fun _ => ((same_registerHalt s false).trans (same_reportHalt _)).ages.follows) next
  | powerOn straps => exact .of_next (.of_ite fun _ => (SameHall.ages {}).follows) next
  | mainPowerLoss =>
    refine .of_next ?_ next
    split
    · exact .refl s
    · exact ((same_stopPart s .unpowered).trans (same_loseUnretained _)).ages.follows
  | vbakBelowRetention => exact .of_next (SameHall.ages {}).follows next
  | resetAssertionRegistered =>
    refine .of_next ?_ next
    split
    · exact .refl s
    · exact (same_stopPart s .heldReset).ages.follows
  | resetRelease straps => exact .of_next (.of_ite fun _ => (SameHall.ages {}).follows) next
  | selfTest passed =>
    refine .of_next (.of_ite fun _ => ?_) next
    split
    · exact (completeStart_ages s).follows
    · exact (SameHall.ages {}).follows

/-- Every step keeps the laws of the hall. -/
theorem step_follows {s t : State} (next : step s = .next t) : HallFollows s t := by
  unfold step at next
  split at next
  · exact .of_next (.refl s) next
  · exact .framed {} (exec_follows next) (.refl t)

/-! ### The statements -/

/-- Settles O55: each change of the hall keeps the law of each block of it, and every step is such changes one after another. -/
theorem stepsKeepTheHall : Obligations.StepsKeepTheHall := by
  intro s t law next
  exact hallParts_iff.1 (step_follows next (hallParts_iff.2 law)).1

/-- Settles O58: a lot after a step is an earlier lot, changed as `Lot.Follows` says, or one under a new serial. -/
theorem lotsOnlyGrow : Obligations.LotsOnlyGrow := by
  intro s t law next l hl m hm same
  have parts := hallParts_iff.2 law
  obtain ⟨k, hk, follows⟩ | fresh := (step_follows next parts).2 m hm
  · obtain rfl : k = l := parts.serials.eq_of_serial_eq hk hl (follows.grows.serial.symm.trans same)
    obtain ⟨g, row⟩ := follows
    exact ⟨(Lot.snapshot_eq_iff.1 g.snapshot).2, ⟨g.maxAge, g.age, g.maturity, g.hotMinutes, g.outages, g.extensions⟩,
      ⟨g.extended, g.interrupted, g.hotHeld⟩, row⟩
  · exact absurd same.symm (fresh l hl)

end Sys2Proof.Machine
end

section
/-! ## QLOT and the starts' retained state (R19, R20, R166, R169) -/

namespace Sys2Proof.Machine

open Sys2Proof

/-! ### QLOT -/

/-- A QLOT that is taken at once answers and changes nothing else. -/
theorem exec_qlot {st : Station} {s : State} (h : TakesAtOnce st s) {args : List Byte} (fits : argsFit args = true) :
    exec (.qlot st args) s = .next (answered st 0x60 (takeQlot args s).status (takeQlot args s).results s) := by
  have arrived : arriveCommand .qlot st args s
      = answered st 0x60 (takeQlot args s).status (takeQlot args s).results (takeQlot args s).state :=
    arriveCommand_of_takesAtOnce h fits rfl
  rw [takeQlot_state] at arrived
  exact congrArg Host.Outcome.next arrived

theorem lotPage?_of_short {args : List Byte} (short : args.length < 4) : lotPage? args = none := by
  unfold lotPage?
  split
  · simp only [List.length_cons] at short
    omega
  · rfl

theorem takeQlot_of_short {args : List Byte} (s : State) (short : args.length < 4) :
    takeQlot args s = refuse .badArgument s := by
  simp [takeQlot, lotPage?_of_short short]

section
variable {args : List Byte} {serial page : Nat} (given : lotPage? args = some (serial, page)) (s : State)
include given

theorem takeQlot_of_page (noPage : 3 < page) : takeQlot args s = refuse .badArgument s := by
  simp [takeQlot, given, noPage]

theorem takeQlot_of_unknown (known : page ≤ 3) (unknown : s.lot? serial = none) : takeQlot args s = refuse .unknownLot s := by
  simp [takeQlot, given, Nat.not_lt.2 known, unknown]

theorem takeQlot_of_lot {l : Lot} (known : page ≤ 3) (found : s.lot? serial = some l) :
    takeQlot args s = accept (lotPage page l) s := by
  simp [takeQlot, given, Nat.not_lt.2 known, found]

end

/-- Settles O8: the taking of QLOT, check by check, answered at once. -/
theorem qlotReadsOnePage : Obligations.QlotReadsOnePage := by
  intro st args s atOnce fits
  rw [exec_qlot atOnce fits]
  refine ⟨fun short => by rw [takeQlot_of_short s short]; rfl, fun serial page given => ⟨fun noPage => ?_, fun known unknown => ?_, ?_⟩⟩
  · rw [takeQlot_of_page given s noPage]
    rfl
  · rw [takeQlot_of_unknown given s known unknown]
    rfl
  · intro l found
    refine ⟨?_, ?_, ?_, ?_⟩
    all_goals
      rintro rfl
      rw [takeQlot_of_lot given s (by decide) found]
      rfl

/-! ### What a completed start keeps of its actions -/

/-- t holds the retained state of s (Table 11–2), and in its lanes the readings of s as well. -/
structure SameRetained (s t : State) : Prop where
  lots : t.lots = s.lots
  nextSerial : t.nextSerial = s.nextSerial
  recipes : t.recipes = s.recipes
  limits : t.limits = s.limits
  lines : t.lines = s.lines
  lanes : t.lanes = s.lanes
  staleLimit : t.staleLimit = s.staleLimit
  plantMinute : t.plantMinute = s.plantMinute
  queue : t.queue = s.queue
  claims : t.claims = s.claims
  claimTimeout : t.claimTimeout = s.claimTimeout
  releaseLog : t.releaseLog = s.releaseLog
  retentionLost : t.retentionLost = s.retentionLost

/-- After its actions a start changes nothing that is retained (R166, steps 4 and 5). -/
theorem completeStart_retained (s : State) : SameRetained (startActions s) (completeStart s) := by
  constructor <;> simp [completeStart, enterService, zeroTimeBase, reportStart, reportVoided, sampleHalt]

theorem exec_selfTest_passed {s : State} (h : s.phase = .starting) : exec (.selfTest true) s = .next (completeStart s) := by
  simp [exec, execSelfTest, h]

/-! ### The warm start -/

/-- A lot after the warm actions, by its state before them (R17, R69, R126). -/
theorem Lot.afterWarmStart (l : Lot) : l.voided.unclaimed.afterOutage = match l.state with
    | .dosed => { l with state := .void }
    | .claimed => { l with state := .cured, outages := min 255 (l.outages + 1), interrupted := true }
    | .curing | .overdue | .cured => { l with outages := min 255 (l.outages + 1), interrupted := true }
    | .void | .rejected => l := by
  cases state : l.state <;>
    simp [Lot.voided, Lot.unclaimed, Lot.afterOutage, LotState.credited, Lot.interruptedOnce, Lot.withState, satAdd, state]

theorem warmActions_lots (s : State) : (warmActions s).lots = s.lots.map fun l => l.voided.unclaimed.afterOutage := by
  show ((s.lots.map Lot.voided).map Lot.unclaimed).map Lot.afterOutage = _
  rw [List.map_map, List.map_map]
  rfl

/-- Settles O49: a completed start keeps of the retained state what its actions leave, and the warm actions change lots, lines, queue,
claims and readings alone. -/
theorem warmStartKeepsTheHall : Obligations.WarmStartKeepsTheHall := by
  intro s starting warm
  have actions : startActions s = warmActions s := by simp [startActions, warm]
  have kept := completeStart_retained s
  rw [actions] at kept
  refine ⟨completeStart s, exec_selfTest_passed starting, ?_, fun n => ?_, kept.queue, kept.claims, fun b => ?_, kept.nextSerial,
    kept.recipes, kept.limits, kept.staleLimit, kept.plantMinute, kept.claimTimeout, kept.releaseLog, kept.retentionLost⟩
  · rw [kept.lots, warmActions_lots]
    exact List.map_congr_left fun l _ => l.afterWarmStart
  · have line : (warmActions s).lines[n] = s.lines[n].voided := by
      simp [warmActions, emptyUnretained, countOutages, returnClaims, voidDoses]
    rw [kept.lines, line]
    cases s.lines[n] <;> rfl
  · rw [kept.lanes]
    simp [warmActions, emptyUnretained, countOutages, returnClaims, voidDoses, Lane.withoutReading]

/-! ### The cold start -/

/-- Settles O50: a completed start keeps of the retained state what its actions leave, and the cold actions give it. -/
theorem coldStartEmptiesTheHall : Obligations.ColdStartEmptiesTheHall := by
  refine ⟨fun s starting cold => ?_, rfl, rfl⟩
  have actions : startActions s = coldActions s := by simp [startActions, cold]
  have kept := completeStart_retained s
  rw [actions] at kept
  refine ⟨completeStart s, exec_selfTest_passed starting, kept.lots, kept.nextSerial, kept.queue, kept.claims, kept.releaseLog,
    kept.claimTimeout, kept.staleLimit, kept.plantMinute, kept.retentionLost, fun k => ?_, fun n => ⟨?_, ?_⟩, fun b => ?_⟩
  · rw [kept.recipes]; simp [coldActions]
  · rw [kept.lines]; simp [coldActions]
  · rw [kept.limits]; simp [coldActions, LineLimits.coldStart]
  · rw [kept.lanes]; simp [coldActions, Lane.coldStart]

end Sys2Proof.Machine
end

section
/-! ## What must be shown of a predicate for every step to keep it

The link interface stands between the bus and the owning blocks: it is gone through here once, for any predicate on states. A law that
rests on no field of the link's own is left to be shown of the owners' takings and of the part's own events. -/

namespace Sys2Proof.Machine

open Sys2Proof

/-- t is s but for the fields that the link interface holds, the straps' levels and the model's own queue. -/
def LinkChange (s t : State) : Prop :=
  t = { s with
    link := t.link, transmitErrors := t.transmitErrors, receiveErrors := t.receiveErrors, inboxes := t.inboxes
    lostMarks := t.lostMarks, slots := t.slots, answers := t.answers, transmitter := t.transmitter, strapPins := t.strapPins
    pending := t.pending }

theorem linkChange_failAttempt (s : State) : LinkChange s (failAttempt s) := by
  unfold failAttempt
  split <;> rfl

theorem linkChange_requestStanding (k : StandingNo) (s : State) : LinkChange s (requestStanding k s) := by
  unfold requestStanding
  split <;> rfl

/-- P is kept by changes of the link's own fields, by the taking of every command, and by every event that the owners and the start-up
controller take, where the part takes it. -/
structure StepKept (P : State → Prop) : Prop where
  link : ∀ {s t : State}, LinkChange s t → P s → P t
  taken : ∀ (c : CommandCode) (st : Station) (args : List Byte) {s : State}, P s → P (deliver c st args s).state
  second : ∀ {s : State}, s.phase = .inService → P s → P (takeSecond s)
  window : ∀ (n : Line) {s : State}, s.phase = .inService → P s → P (expireWindow n s)
  claims : ∀ {s : State}, s.phase = .inService → P s → P (expireClaims s)
  interval : ∀ {s : State}, s.phase = .inService → P s → P { takeInterval s with intervalTaken := true }
  haltInput : ∀ {s : State} (raw timing : Bool), P s → P { s with phRaw := raw, qualifying := timing }
  halt : ∀ (level : Bool) {s : State}, s.phase = .inService → P s → P (reportHalt (registerHalt level s))
  begins : ∀ (cause : StartCause) {s : State}, P s → P (beginStart cause s)
  completes : ∀ {s : State}, s.phase = .starting → P s → P (completeStart s)
  fails : ∀ {s : State}, s.phase = .starting → P s → P { s with phase := .fault, selfTestPassed := some false }
  resets : ∀ {s : State}, P s → P (stopPart .heldReset s)
  powerLoss : ∀ {s : State}, P s → P (loseUnretained (stopPart .unpowered s))
  latch : ∀ {s : State}, s.phase = .unpowered → P s → P { s with retentionLost := true }

section
variable {P : State → Prop} (k : StepKept P) {s : State}
include k

/-! ### The link interface -/

theorem StepKept.judgeFrame (st : Station) (data : List Byte) (h : P s) : P (judgeFrame st data s).state := by
  fun_cases Machine.judgeFrame st data s
  case case3 c _ _ => exact k.taken c st _ h
  all_goals exact h

theorem StepKept.takeCommand (st : Station) (data : List Byte) (h : P s) : P (takeCommand st data s) :=
  k.link rfl (k.judgeFrame st data (k.link (t := setInbox st none s) rfl h))

theorem StepKept.arrive (st : Station) (data : List Byte) (h : P s) : P (arrive st data s) := by
  fun_cases Machine.arrive st data s
  case case1 => exact h
  case case2 => exact k.link rfl h
  case case3 => exact k.takeCommand st _ h
  case case4 => exact k.link rfl h

theorem StepKept.requestStanding (i : StandingNo) (h : P s) : P (requestStanding i s) :=
  k.link (linkChange_requestStanding i s) h

theorem StepKept.receiveFrame (f : RxFrame) (h : P s) : P (receiveFrame f s) := by
  fun_cases Machine.receiveFrame f s
  case case1 st _ => exact k.arrive st _ h
  case case2 i _ => exact k.requestStanding i h
  case case3 => exact h

theorem StepKept.takeWaiting (st : Station) (h : P s) : P (takeWaiting st s) := by
  fun_cases Machine.takeWaiting st s
  case case1 => exact k.takeCommand st _ h
  case case2 => exact h

theorem StepKept.answerSent (st : Station) (h : P s) : P (answerSent st s) := by
  fun_cases Machine.answerSent st s
  case case1 cause _ => exact k.begins cause h
  case case2 => exact k.takeWaiting st (k.link rfl h)

theorem StepKept.completeAttempt (fall : ErrorFall) (straps : Straps) (h : P s) : P (completeAttempt fall straps s) := by
  fun_cases Machine.completeAttempt fall straps s
  case case1 st _ => exact k.answerSent st (k.link rfl h)
  case case2 => exact k.link rfl h
  case case3 => exact h

/-! ### Every command and event -/

theorem StepKept.exec {c : Instr} {t : State} (next : exec c s = .next t) (h : P s) : P t := by
  cases c <;> cases next
  case remoteRequest i => exact k.requestStanding i h
  case ignoredFrame f => exact k.receiveFrame f h
  case attemptStart =>
    split_ifs
    · split
      · exact k.link rfl h
      · exact h
    · exact h
  case attemptCompletion fall straps => exact iteInduction (fun _ => k.completeAttempt fall straps h) fun _ => h
  case arbitrationLoss => exact iteInduction (fun _ => k.link (linkChange_failAttempt s) h) fun _ => h
  case busError tecRise recRise =>
    exact iteInduction (fun _ => k.link (s := failAttempt s) rfl (k.link (linkChange_failAttempt s) h)) fun _ => h
  case busOffRecovery => exact iteInduction (fun _ => k.link rfl h) fun _ => h
  case secondEvent => exact iteInduction (fun serving => k.second serving h) fun _ => h
  case pourWindowExpiry n =>
    refine iteInduction (fun due => ?_) fun _ => h
    simp only [Bool.and_eq_true, decide_eq_true_eq] at due
    exact k.window n due.1 h
  case claimExpiry =>
    refine iteInduction (fun due => ?_) fun _ => h
    simp only [Bool.and_eq_true, decide_eq_true_eq] at due
    exact k.claims due.1 h
  case intervalEvent =>
    refine iteInduction (fun due => ?_) fun _ => h
    simp only [Bool.and_eq_true, decide_eq_true_eq] at due
    exact k.interval due.1.1 h
  case phChange asserted => exact k.haltInput _ _ h
  case haltAssertionRegistered =>
    refine iteInduction (fun due => ?_) fun _ => h
    simp only [State.registers, Bool.and_eq_true, decide_eq_true_eq] at due
    exact k.halt true due.1.1.1 h
  case haltReleaseRegistered =>
    refine iteInduction (fun due => ?_) fun _ => h
    simp only [State.registers, Bool.and_eq_true, decide_eq_true_eq] at due
    exact k.halt false due.1.1.1 h
  case powerOn straps => exact iteInduction (fun _ => k.begins _ (k.link rfl h)) fun _ => h
  case mainPowerLoss => exact iteInduction (fun _ => h) fun _ => k.powerLoss h
  case vbakBelowRetention =>
    by_cases unpowered : s.phase = .unpowered
    · simpa only [unpowered, if_true] using k.latch unpowered h
    · simpa only [unpowered, if_false] using h
  case resetAssertionRegistered => exact iteInduction (fun _ => h) fun _ => k.resets h
  case resetRelease straps => exact iteInduction (fun _ => k.begins _ (k.link rfl h)) fun _ => h
  case selfTest passed =>
    refine iteInduction (fun starting => ?_) fun _ => h
    cases passed
    · exact k.fails starting h
    · exact k.completes starting h
  all_goals exact k.arrive _ _ h

theorem StepKept.step {t : State} (next : step s = .next t) (h : P s) : P t := by
  unfold Machine.step at next
  split at next
  · cases next
    exact h
  · exact k.exec next (k.link rfl h)

end

end Sys2Proof.Machine
end

section
/-! ## The laws of the ranges (R6, R21, R27, R47, R48, R70, R88, R91)

The four laws of recipes, parameters, time base and readings read a few fields of the state. They are stated here of those fields alone,
so that an operation that touches none of them keeps the laws by an equation. -/

namespace Sys2Proof.Machine

open Sys2Proof

/-! ### The fields that the laws read -/

/-- What the laws of the ranges read of a state. -/
structure Ranged where
  recipes : Vector Recipe 8
  limits : Vector LineLimits 4
  capacities : Vector Nat 16
  readings : Vector (Option Reading) 16
  staleLimit : Nat
  claimTimeout : Nat
  nextSerial : Nat
  secondInMinute : Nat
  plantMinute : Nat

def State.ranged (s : State) : Ranged where
  recipes := s.recipes
  limits := s.limits
  capacities := s.lanes.map (·.capacity)
  readings := s.lanes.map (·.reading)
  staleLimit := s.staleLimit
  claimTimeout := s.claimTimeout
  nextSerial := s.nextSerial
  secondInMinute := s.secondInMinute
  plantMinute := s.plantMinute

/-- The fields in range, and the recipe consistent if enabled (R21, R27). -/
def Recipe.Lawful (r : Recipe) : Prop :=
  (∀ f : RecipeField, f.admits (r.get f) = true) ∧ (r.enabled = true → r.failedCondition = 0)

/-- A line's limits in range (R47). -/
structure LineLimits.Lawful (lim : LineLimits) : Prop where
  cement : 50 ≤ lim.cementMax ∧ lim.cementMax ≤ 4000
  water : 50 ≤ lim.waterMax ∧ lim.waterMax ≤ 4000
  additive : lim.additiveMax ≤ 400

/-- A reading that the part takes, its age within the saturation limit (R70, R80). -/
def Reading.Lawful (x : Reading) : Prop := validTemperature x.temperature = true ∧ x.age ≤ Config.maxCount

/-- The laws of the ranges, of the fields that they read. -/
structure Ranged.Lawful (r : Ranged) : Prop where
  recipes : ∀ k : RecipeNo, r.recipes[k].Lawful
  limits : ∀ n : Line, r.limits[n].Lawful
  capacities : ∀ b : Bay, 1 ≤ r.capacities[b] ∧ r.capacities[b] ≤ 6
  readings : ∀ b : Bay, ∀ x ∈ r.readings[b], x.Lawful
  staleLimit : 1 ≤ r.staleLimit ∧ r.staleLimit ≤ 60
  claimTimeout : 120 ≤ r.claimTimeout ∧ r.claimTimeout ≤ 3600
  nextSerial : 1 ≤ r.nextSerial ∧ r.nextSerial ≤ Config.maxSerial
  secondInMinute : r.secondInMinute ≤ 59
  plantMinute : r.plantMinute ≤ Config.maxPlantMinute

theorem ranged_lawful_iff {s : State} : s.ranged.Lawful ↔ RecipeLaw s ∧ ParameterLaw s ∧ TimeLaw s ∧ ReadingLaw s := by
  constructor
  · intro h
    have capacities := h.capacities
    have readings := h.readings
    simp only [State.ranged, Fin.getElem_fin, Vector.getElem_map] at capacities readings
    exact ⟨h.recipes, ⟨fun n => (h.limits n).cement, fun n => (h.limits n).water, fun n => (h.limits n).additive, h.staleLimit,
      capacities, h.claimTimeout, h.nextSerial⟩, ⟨h.secondInMinute, h.plantMinute⟩, readings⟩
  · rintro ⟨recipes, parameters, time, readings⟩
    exact
      { recipes := recipes
        limits := fun n => ⟨parameters.cement n, parameters.water n, parameters.additive n⟩
        capacities := fun b => by simpa [State.ranged] using parameters.capacity b
        readings := fun b => by simpa [State.ranged, Reading.Lawful] using readings b
        staleLimit := parameters.staleLimit, claimTimeout := parameters.claimTimeout, nextSerial := parameters.nextSerial
        secondInMinute := time.second, plantMinute := time.minute }

/-- A property of every entry of a table is kept by writing an entry that has it. -/
theorem forall_getElem_set {α : Type} {n : Nat} {P : α → Prop} {table : Vector α n} {i : Fin n} {x : α} (new : P x)
    (old : ∀ j : Fin n, P table[j]) (j : Fin n) : P (table.set i x)[j] := by
  simp only [Fin.getElem_fin, Vector.getElem_set]
  split
  · exact new
  · exact old j

/-- An entry of a mapped table written with what it holds. -/
theorem set_map_self {α β : Type} {n i : Nat} (f : α → β) (table : Vector α n) (h : i < n) :
    (table.map f).set i (f table[i]) = table.map f := by
  rw [← Vector.map_set, Vector.set_getElem_self]

/-! ### What the shared operations do to them -/

section
variable (s : State)

@[simp] theorem refuse_state (status : Status) : (refuse status s).state = s := rfl
@[simp] theorem accept_state (results : Results) : (accept results s).state = s := rfl

@[simp] theorem raise_ranged (st : Station) (k : AttnKind) : (raise st k s).ranged = s.ranged := rfl
@[simp] theorem raiseFor_ranged (who : Station → Bool) (k : AttnKind) : (raiseFor who k s).ranged = s.ranged := rfl

@[simp] theorem reportCondition_ranged (k : AttnKind) (value : Bool) : (reportCondition k value s).ranged = s.ranged := by
  cases value <;> rfl

@[simp] theorem reportHalt_ranged : (reportHalt s).ranged = s.ranged := reportCondition_ranged s _ _
@[simp] theorem reportStale_ranged : (reportStale s).ranged = s.ranged := reportCondition_ranged s _ _
@[simp] theorem reportTime_ranged : (reportTime s).ranged = s.ranged := reportCondition_ranged s _ _
@[simp] theorem reportQueue_ranged : (reportQueue s).ranged = s.ranged := reportCondition_ranged s _ _
@[simp] theorem reportOverdue_ranged : (reportOverdue s).ranged = s.ranged := reportCondition_ranged s _ _
@[simp] theorem reportRejected_ranged : (reportRejected s).ranged = s.ranged := reportCondition_ranged s _ _
@[simp] theorem setLine_ranged (n : Line) (r : LineRecord) : (setLine n r s).ranged = s.ranged := rfl
@[simp] theorem changeLot_ranged (serial : Nat) (f : Lot → Lot) : (changeLot serial f s).ranged = s.ranged := rfl
@[simp] theorem freeLot_ranged (serial : Nat) : (freeLot serial s).ranged = s.ranged := rfl
@[simp] theorem joinTail_ranged (serial : Nat) : (joinTail serial s).ranged = s.ranged := rfl
@[simp] theorem leaveQueue_ranged (serial : Nat) : (leaveQueue serial s).ranged = s.ranged := rfl
@[simp] theorem removeClaim_ranged (serial : Nat) : (removeClaim serial s).ranged = s.ranged := rfl
@[simp] theorem returnClaim_ranged (serial : Nat) : (returnClaim serial s).ranged = s.ranged := rfl
@[simp] theorem revokeClaim_ranged (serial : Nat) : (revokeClaim serial s).ranged = s.ranged := rfl
@[simp] theorem voidDose_ranged (n : Line) (serial : Nat) : (voidDose n serial s).ranged = s.ranged := rfl

theorem setLane_ranged (b : Bay) (lane : Lane) : (setLane b lane s).ranged = { s.ranged with
    capacities := s.ranged.capacities.set b lane.capacity
    readings := s.ranged.readings.set b lane.reading } := by
  simp [setLane, State.ranged]

/-- A lane may take other lots and another lock. -/
theorem setLane_ranged_eq {b : Bay} {lane : Lane} (capacity : lane.capacity = s.lanes[b].capacity)
    (reading : lane.reading = s.lanes[b].reading) : (setLane b lane s).ranged = s.ranged := by
  simp only [setLane, State.ranged, Vector.map_set, capacity, reading, Fin.getElem_fin, set_map_self]

@[simp] theorem placeLot_ranged (b : Bay) (serial : Nat) : (placeLot b serial s).ranged = s.ranged :=
  setLane_ranged_eq s (lane := s.lanes[b].withBack serial) rfl rfl

@[simp] theorem removeFront_ranged (b : Bay) : (removeFront b s).ranged = s.ranged :=
  setLane_ranged_eq s (lane := { s.lanes[b] with lots := s.lanes[b].lots.tail }) rfl rfl

@[simp] theorem handOver_ranged (b : Bay) : (handOver b s).ranged = s.ranged := by
  simp only [handOver, reportRejected_ranged, reportQueue_ranged]
  rfl

end

/-! ### The takings that change none of them -/

section
variable (args : List Byte) (s : State)

theorem takeDsch_ranged (n : Line) : (takeDsch n args s).state.ranged = s.ranged := by
  fun_cases takeDsch n args s <;> simp

theorem takeAbdn_ranged (n : Line) : (takeAbdn n s).state.ranged = s.ranged := by
  fun_cases takeAbdn n s <;> simp

theorem takeLaneLock_ranged (locked : Bool) : (takeLaneLock locked args s).state.ranged = s.ranged := by
  fun_cases takeLaneLock locked args s
  case case1 => rfl
  case case2 b _ => exact setLane_ranged_eq s (b := b) (lane := s.lanes[b].withLock locked) rfl rfl

theorem claimHead_ranged (serial truck : Nat) : (claimHead serial truck s).ranged = s.ranged := reportQueue_ranged _

theorem takeClnx_ranged : (takeClnx args s).state.ranged = s.ranged := by
  fun_cases takeClnx args s <;> simp [claimHead_ranged]

theorem confirmLot_ranged (l : Lot) (truck netMass : Nat) : (confirmLot l truck netMass s).ranged = s.ranged := by
  simp only [confirmLot, handOver_ranged, removeFront_ranged, removeClaim_ranged]
  rfl

theorem takeCnfm_ranged : (takeCnfm args s).state.ranged = s.ranged := by
  fun_cases takeCnfm args s <;> simp +zetaDelta [confirmLot_ranged]

theorem takeRtrn_ranged : (takeRtrn args s).state.ranged = s.ranged := by
  fun_cases takeRtrn args s <;> simp +zetaDelta

theorem takeHold_ranged : (takeHold args s).state.ranged = s.ranged := by
  fun_cases takeHold args s <;> simp [holdLot, holdClaimed]

theorem unholdLot_ranged (l : Lot) : (unholdLot l s).ranged = s.ranged := by
  unfold unholdLot
  dsimp only
  split_ifs <;> simp

theorem takeUnhd_ranged : (takeUnhd args s).state.ranged = s.ranged := by
  fun_cases takeUnhd args s <;> simp +zetaDelta [unholdLot_ranged]

theorem rejectLot_ranged (l : Lot) : (rejectLot l s).ranged = s.ranged := by
  unfold rejectLot
  dsimp only
  split_ifs <;> simp

theorem takeRjct_ranged : (takeRjct args s).state.ranged = s.ranged := by
  fun_cases takeRjct args s <;> simp [rejectLot_ranged]

theorem takeClrb_ranged : (takeClrb args s).state.ranged = s.ranged := by
  fun_cases takeClrb args s <;> simp

theorem extendLot_ranged (l : Lot) (minutes : Nat) : (extendLot l minutes s).ranged = s.ranged := by
  unfold extendLot
  dsimp only
  split_ifs <;> simp

theorem takeExtd_ranged : (takeExtd args s).state.ranged = s.ranged := by
  fun_cases takeExtd args s <;> simp [extendLot_ranged]

theorem takeAtcl_ranged (st : Station) : (takeAtcl st args s).state.ranged = s.ranged := by
  fun_cases takeAtcl st args s <;> rfl

theorem takeAtmk_ranged (st : Station) : (takeAtmk st args s).state.ranged = s.ranged := by
  fun_cases takeAtmk st args s <;> rfl

end

/-! ### The recipe commands -/

/-- A disabled recipe takes a value of a field's range (R23, R24). -/
theorem Recipe.Lawful.put {r : Recipe} (h : r.Lawful) {f : RecipeField} {v : Int} (disabled : r.enabled = false)
    (admitted : f.admits v = true) : (r.put f v).Lawful := by
  refine ⟨fun g => ?_, fun on => ?_⟩
  · by_cases same : g = f
    · rw [same, Recipe.get_put_self admitted]
      exact admitted
    · rw [Recipe.get_put_of_ne same]
      exact h.1 g
  · rw [Recipe.put_enabled, disabled] at on
    exact absurd on nofun

/-- A consistent recipe may be enabled, and any disabled (R25, R28). -/
theorem Recipe.Lawful.withEnabled {r : Recipe} (h : r.Lawful) {on : Bool} (consistent : on = true → r.failedCondition = 0) :
    (r.withEnabled on).Lawful :=
  ⟨fun f => by rw [Recipe.withEnabled_get]; exact h.1 f, consistent⟩

section
variable {s : State} (h : s.ranged.Lawful)
include h

theorem setRecipe_lawful {k : RecipeNo} {r : Recipe} (law : r.Lawful) : (setRecipe k r s).ranged.Lawful :=
  { h with recipes := forall_getElem_set law h.recipes }

theorem takeRcpw_lawful (args : List Byte) : (takeRcpw args s).state.ranged.Lawful := by
  fun_cases takeRcpw args s
  case case4 k f _ _ range enabled =>
    exact setRecipe_lawful h ((h.recipes k).put (Bool.eq_false_iff.2 enabled) (by simpa using range))
  all_goals exact h

theorem takeRcpe_lawful (args : List Byte) : (takeRcpe args s).state.ranged.Lawful := by
  fun_cases takeRcpe args s
  case case3 k _ _ consistent => exact setRecipe_lawful h ((h.recipes k).withEnabled fun _ => consistent)
  all_goals exact h

theorem takeRcpd_lawful (args : List Byte) : (takeRcpd args s).state.ranged.Lawful := by
  fun_cases takeRcpd args s
  case case1 => exact h
  case case2 k _ => exact setRecipe_lawful h ((h.recipes k).withEnabled nofun)

theorem takeRcpr_lawful (args : List Byte) : (takeRcpr args s).state.ranged.Lawful := by
  fun_cases takeRcpr args s <;> exact h

/-! ### The parameters -/

theorem setLimits_lawful {n : Line} {lim : LineLimits} (law : lim.Lawful) : (setLimits n lim s).ranged.Lawful :=
  { h with limits := forall_getElem_set law h.limits }

theorem takeCementMax_lawful (index value : Nat) : (takeCementMax index value s).state.ranged.Lawful := by
  fun_cases takeCementMax index value s
  case case3 n _ range => exact setLimits_lawful h { h.limits n with cement := by simpa using range }
  all_goals exact h

theorem takeWaterMax_lawful (index value : Nat) : (takeWaterMax index value s).state.ranged.Lawful := by
  fun_cases takeWaterMax index value s
  case case3 n _ range => exact setLimits_lawful h { h.limits n with water := by simpa using range }
  all_goals exact h

theorem takeAdditiveMax_lawful (index value : Nat) : (takeAdditiveMax index value s).state.ranged.Lawful := by
  fun_cases takeAdditiveMax index value s
  case case3 n _ range => exact setLimits_lawful h { h.limits n with additive := by simpa using range }
  all_goals exact h

theorem takeStaleLimit_lawful (index value : Nat) : (takeStaleLimit index value s).state.ranged.Lawful := by
  fun_cases takeStaleLimit index value s
  case case1 => exact h
  case case2 range => exact { h with staleLimit := by simp at range; simp only [State.ranged]; omega }

theorem takeClaimTimeout_lawful (index value : Nat) : (takeClaimTimeout index value s).state.ranged.Lawful := by
  fun_cases takeClaimTimeout index value s
  case case1 => exact h
  case case2 range => exact { h with claimTimeout := by simp at range; simp only [State.ranged]; omega }

theorem takeBayCapacity_lawful (index value : Nat) : (takeBayCapacity index value s).state.ranged.Lawful := by
  fun_cases takeBayCapacity index value s
  case case4 b _ range _ =>
    rw [setLane_ranged]
    have reading := h.readings b
    simp only [State.ranged, Fin.getElem_fin, Vector.getElem_map] at reading
    exact { h with
      capacities := forall_getElem_set (P := fun c => 1 ≤ c ∧ c ≤ 6) (by simp at range; dsimp only; omega) h.capacities
      readings := forall_getElem_set (P := fun r => ∀ x ∈ r, Reading.Lawful x) reading h.readings }
  all_goals exact h

theorem takeSpar_lawful (args : List Byte) : (takeSpar args s).state.ranged.Lawful := by
  fun_cases takeSpar args s
  case case2 => exact takeCementMax_lawful h _ _
  case case3 => exact takeWaterMax_lawful h _ _
  case case4 => exact takeAdditiveMax_lawful h _ _
  case case5 => exact takeStaleLimit_lawful h _ _
  case case6 => exact takeBayCapacity_lawful h _ _
  case case7 => exact takeClaimTimeout_lawful h _ _
  all_goals exact h

/-! ### Serials, readings and the time of day -/

/-- The search for a serial stays in the range of serials, whatever lots are live (R6). -/
theorem allocated_le : s.allocated ≤ Config.maxSerial := by
  obtain ⟨passed, -, found, -⟩ := freeSerial_passes (s.lots.map (·.serial)) s.lots.length s.nextSerial
  rw [State.allocated, found]
  exact (iterate_nextAfter_inRange h.nextSerial.1 h.nextSerial.2 passed).2

theorem openDose_lawful (n : Line) (q : DoseRequest) (k : RecipeNo) : (openDose n q k s).ranged.Lawful :=
  { h with nextSerial := nextAfter_inRange (allocated_le h) }

theorem doseWith_lawful (n : Line) (q : DoseRequest) (k : RecipeNo) : (doseWith n q k s).state.ranged.Lawful := by
  unfold doseWith
  dsimp only
  split
  case h_2 | h_3 => exact openDose_lawful h n q k
  all_goals exact h

theorem takeDosq_lawful (n : Line) (args : List Byte) : (takeDosq n args s).state.ranged.Lawful := by
  fun_cases takeDosq n args s
  case case8 => exact doseWith_lawful h n _ _
  all_goals exact h

/-- R80, R81: only a valid reading is taken, at age 0. -/
theorem takeReading_lawful (b : Bay) (t : Int) : (takeReading b t s).ranged.Lawful := by
  fun_cases takeReading b t s
  case case1 valid =>
    rw [reportStale_ranged, setLane_ranged]
    have capacity := h.capacities b
    simp only [State.ranged, Fin.getElem_fin, Vector.getElem_map] at capacity
    have taken : ∀ x ∈ some (Reading.mk t 0), x.Lawful := by simpa [Reading.Lawful] using valid
    exact { h with
      capacities := forall_getElem_set (P := fun c => 1 ≤ c ∧ c ≤ 6) capacity h.capacities
      readings := forall_getElem_set (P := fun r => ∀ x ∈ r, Reading.Lawful x) taken h.readings }
  case case2 => exact h

theorem takeTmpr_lawful (args : List Byte) : (takeTmpr args s).state.ranged.Lawful := by
  fun_cases takeTmpr args s
  case case3 => exact takeReading_lawful h _ _
  case case5 => exact takeReading_lawful (takeReading_lawful h _ _) _ _
  all_goals exact h

end

theorem minute?_le {args : List Byte} {minute : Nat} (given : minute? args = some minute) : minute ≤ Config.maxPlantMinute := by
  unfold minute? at given
  split at given
  · next a b c d _ =>
    obtain rfl := Option.some.inj given
    have := a.isLt
    have := b.isLt
    have := c.isLt
    have := d.isLt
    simp only [beNat, List.foldl_cons, List.foldl_nil, Config.maxPlantMinute]
    omega
  · exact absurd given nofun

section
variable {s : State} (h : s.ranged.Lawful)
include h

theorem takeStim_lawful (args : List Byte) : (takeStim args s).state.ranged.Lawful := by
  fun_cases takeStim args s
  case case1 => exact h
  case case2 minute given =>
    rw [accept_state, reportTime_ranged]
    exact { h with secondInMinute := Nat.zero_le _, plantMinute := minute?_le given }

/-- The owner's taking of any command keeps the laws of the ranges. -/
theorem deliver_lawful (c : CommandCode) (st : Station) (args : List Byte) : (deliver c st args s).state.ranged.Lawful := by
  cases c <;> unfold deliver <;> dsimp only
  case dosq => exact takeDosq_lawful h _ args
  case dsch => rwa [takeDsch_ranged]
  case abdn => rwa [takeAbdn_ranged]
  case tmpr => exact takeTmpr_lawful h args
  case clnx => rwa [takeClnx_ranged]
  case cnfm => rwa [takeCnfm_ranged]
  case rtrn => rwa [takeRtrn_ranged]
  case hold => rwa [takeHold_ranged]
  case unhd => rwa [takeUnhd_ranged]
  case rjct => rwa [takeRjct_ranged]
  case clrb => rwa [takeClrb_ranged]
  case extd => rwa [takeExtd_ranged]
  case lock | ulck => exact (takeLaneLock_ranged args s _).symm ▸ h
  case rcpw => exact takeRcpw_lawful h args
  case rcpe => exact takeRcpe_lawful h args
  case rcpd => exact takeRcpd_lawful h args
  case rcpr => exact takeRcpr_lawful h args
  case stim => exact takeStim_lawful h args
  case spar => exact takeSpar_lawful h args
  case qlot => rwa [takeQlot_state]
  case qrel => rwa [takeQrel_state]
  case atcl => rwa [takeAtcl_ranged]
  case atmk => rwa [takeAtmk_ranged]
  case atrd | qlin | rstw | rstc => exact h

end

/-! ### The time base -/

section
variable (s : State)

theorem expireWindow_ranged (n : Line) : (expireWindow n s).ranged = s.ranged := by
  fun_cases expireWindow n s <;> rfl

theorem runWindow_ranged (n : Line) : (runWindow n s).ranged = s.ranged := by
  fun_cases runWindow n s <;> simp [expireWindow_ranged]

theorem runWindows_ranged : (runWindows s).ranged = s.ranged := by simp only [runWindows, runWindow_ranged]

theorem expireClaims_ranged : (expireClaims s).ranged = s.ranged := by
  rw [expireClaims, reportQueue_ranged]
  induction s.claims.filter Claim.ends with
  | nil => rfl
  | cons c rest ih => exact ih

theorem runClaims_ranged : (runClaims s).ranged = s.ranged := by
  show State.ranged (if s.claims.any Claim.ends then expireClaims s else s) = s.ranged
  split_ifs
  · exact expireClaims_ranged s
  · rfl

theorem judgeHeat_ranged (l : Lot) : (judgeHeat l s).ranged = s.ranged := by
  fun_cases judgeHeat l s
  case case1 =>
    unfold holdForHeat
    dsimp only
    split_ifs <;> rfl
  all_goals rfl

theorem judgeJoin_ranged (serial : Nat) : (judgeJoin serial s).ranged = s.ranged := by
  fun_cases judgeJoin serial s <;> rfl

theorem judgeLot_ranged (serial : Nat) : (judgeLot serial s).ranged = s.ranged := by
  fun_cases judgeLot serial s <;> simp [judgeCredited, judgeJoin_ranged, judgeHeat_ranged]

theorem judgeLots_ranged (serials : List Nat) : (judgeLots serials s).ranged = s.ranged := by
  induction serials generalizing s with
  | nil => rfl
  | cons serial rest ih => exact (ih _).trans (judgeLot_ranged s serial)

theorem judgeLanes_ranged : (judgeLanes s).ranged = { s.ranged with
    readings := s.ranged.readings.map (·.map fun r => { r with age := satAdd Config.maxCount r.age 1 }) } := by
  simp only [judgeLanes, State.ranged, Ranged.mk.injEq, true_and, and_true]
  constructor <;> ext i <;> simp [Lane.judged]

theorem creditLots_ranged (temperatures : Bay → Option Int) : (creditLots temperatures s).ranged = s.ranged := rfl

variable {s} (h : s.ranged.Lawful)
include h

theorem raisePlantMinute_lawful : (raisePlantMinute s).ranged.Lawful := { h with plantMinute := satAdd_le _ _ _ }

/-- R83: a reading grows older, up to its limit. -/
theorem judgeLanes_lawful : (judgeLanes s).ranged.Lawful := by
  rw [judgeLanes_ranged]
  refine { h with readings := fun b => ?_ }
  simp only [Fin.getElem_fin, Vector.getElem_map]
  intro x aged
  obtain ⟨y, held, rfl⟩ := Option.map_eq_some_iff.1 aged
  exact ⟨(h.readings b y held).1, satAdd_le _ _ _⟩

theorem takeInterval_lawful : (takeInterval s).ranged.Lawful := by
  simp only [takeInterval, reportInterval, reportQueue_ranged, reportStale_ranged, reportOverdue_ranged, judgeLots_ranged,
    creditLots_ranged]
  exact judgeLanes_lawful (raisePlantMinute_lawful h)

theorem countSecond_lawful : (countSecond s).ranged.Lawful :=
  { h with
    secondInMinute := by
      simp only [State.ranged, countSecond, State.sixtiethNext, decide_eq_true_eq]
      split <;> omega }

theorem takeSecond_lawful : (takeSecond s).ranged.Lawful := by
  have run : (runClaims (runWindows (countSecond s))).ranged.Lawful := by
    rw [runClaims_ranged, runWindows_ranged]
    exact countSecond_lawful h
  fun_cases takeSecond s
  case case1 => exact takeInterval_lawful run
  case case2 => exact run

end

/-! ### The starts -/

/-- Every lane loses its reading (R87). -/
theorem emptyUnretained_ranged (s : State) :
    (emptyUnretained s).ranged = { s.ranged with readings := Vector.replicate 16 none } := by
  simp only [emptyUnretained, State.ranged, Ranged.mk.injEq, true_and, and_true]
  constructor <;> ext i <;> simp [Lane.withoutReading]

theorem loseUnretained_ranged (s : State) :
    (loseUnretained s).ranged = { (emptyUnretained s).ranged with secondInMinute := 0 } := rfl

theorem enterService_ranged (s : State) : (enterService s).ranged = { s.ranged with secondInMinute := 0 } := rfl

theorem reportStart_ranged (voided : Line → Bool) (s : State) : (reportStart voided s).ranged = s.ranged := by
  simp [reportStart, reportVoided]

section
variable {s : State} (h : s.ranged.Lawful)
include h

theorem emptyUnretained_lawful : (emptyUnretained s).ranged.Lawful := by
  rw [emptyUnretained_ranged]
  exact { h with readings := by simp }

theorem warmActions_lawful : (warmActions s).ranged.Lawful := emptyUnretained_lawful h

theorem loseUnretained_lawful : (loseUnretained s).ranged.Lawful := by
  rw [loseUnretained_ranged]
  exact { emptyUnretained_lawful h with secondInMinute := Nat.zero_le _ }

theorem coldActions_lawful : (coldActions s).ranged.Lawful := by
  have recipe : Recipe.coldStart.Lawful := ⟨admits_coldStart, nofun⟩
  have limits : LineLimits.coldStart.Lawful := by constructor <;> decide
  have second := h.secondInMinute
  constructor
  case secondInMinute => exact second
  all_goals simp [coldActions, State.ranged, recipe, limits, Lane.coldStart, Config.coldCapacity, Config.coldStaleLimit,
    Config.coldClaimTimeout, Config.maxSerial]

theorem startActions_lawful : (startActions s).ranged.Lawful := by
  fun_cases startActions s
  case case1 => exact coldActions_lawful h
  case case2 => exact warmActions_lawful h

theorem completeStart_lawful : (completeStart s).ranged.Lawful := by
  rw [completeStart, enterService_ranged, reportStart_ranged]
  exact { startActions_lawful h with secondInMinute := Nat.zero_le _ }

end

/-! ### Every step -/

theorem lawful_stepKept : StepKept fun s => s.ranged.Lawful where
  link change h := by rw [change]; exact h
  taken c st args _ h := deliver_lawful h c st args
  second _ h := takeSecond_lawful h
  window n _ _ h := (expireWindow_ranged _ n).symm ▸ h
  claims _ h := (expireClaims_ranged _).symm ▸ h
  interval _ h := takeInterval_lawful h
  haltInput _ _ h := h
  halt level _ _ h := (reportHalt_ranged _).symm ▸ h
  begins _ _ h := h
  completes _ h := completeStart_lawful h
  fails _ h := h
  resets h := h
  powerLoss h := loseUnretained_lawful h
  latch _ h := h

/-- Settles O52: the four laws read a few fields alone, and what each taking and event does to these keeps them. -/
theorem stepsKeepRanges : Obligations.StepsKeepRanges := by
  intro s t recipes parameters time readings next
  exact ranged_lawful_iff.1 (lawful_stepKept.step next (ranged_lawful_iff.2 ⟨recipes, parameters, time, readings⟩))

end Sys2Proof.Machine
end

section
/-! ## The recipe commands and the selection (R23 to R30) -/

namespace Sys2Proof.Machine

open Sys2Proof

/-! ### Recipe and field numbers -/

theorem recipeNo?_eq_none_iff {r : Nat} : recipeNo? r = none ↔ 7 < r := by
  simp only [recipeNo?, dite_eq_right_iff, reduceCtorEq, imp_false, not_lt]
  omega

@[simp] theorem recipeNo?_val (k : RecipeNo) : recipeNo? k.val = some k := by simp [recipeNo?, k.isLt]

theorem recipeField?_eq_none_iff {id : Nat} : recipeField? id = none ↔ 17 < id := by
  simp only [recipeField?, List.getElem?_eq_none_iff]
  exact Nat.lt_iff_add_one_le.symm

/-- Field 11 is DATUM, the one signed field (Table 2–1, R24). -/
theorem eq_datum_iff {id : Nat} {f : RecipeField} (field : allFields[id]? = some f) : f = .datum ↔ id = 11 := by
  have distinct : allFields.Nodup := by decide
  have known : id < allFields.length := (List.getElem?_eq_some_iff.1 field).1
  rw [← List.getElem?_inj known distinct, field]
  exact Option.some_inj.symm

theorem fieldValue_eq {id : Nat} {f : RecipeField} (field : allFields[id]? = some f) (unsigned : Nat) (signed : Int) :
    fieldValue f unsigned signed = if id = 11 then signed else (unsigned : Int) := by
  simp only [fieldValue, eq_datum_iff field]

/-- A supervisor's command that is taken at once is answered as its owner's taking has it. -/
theorem supervisor_answered {c : CommandCode} {s : State} (h : TakesAtOnce supervisorStation s) {args : List Byte}
    (fits : argsFit args = true) (permitted : c.permits .supervisor = true) {t : Taken}
    (taken : deliver c supervisorStation args s = t) :
    arriveCommand c supervisorStation args s = answered supervisorStation c.byte t.status t.results t.state := by
  rw [arriveCommand_of_takesAtOnce h fits permitted, taken]

/-! ### RCPW -/

theorem exec_rcpw {s : State} (h : TakesAtOnce supervisorStation s) {args : List Byte} (fits : argsFit args = true) :
    exec (.rcpw 6 args) s
      = .next (answered 6 0x48 (takeRcpw args s).status (takeRcpw args s).results (takeRcpw args s).state) :=
  congrArg Host.Outcome.next (supervisor_answered (c := .rcpw) h fits rfl rfl)

section
variable {args : List Byte} (s : State)

theorem takeRcpw_of_short (short : recipeWrite? args = none) : takeRcpw args s = refuse .badArgument s := by
  simp [takeRcpw, short]

variable {r id unsigned : Nat} {signed : Int} (given : recipeWrite? args = some (r, id, unsigned, signed))
include given

theorem takeRcpw_of_unknown (unknown : 7 < r ∨ 17 < id) : takeRcpw args s = refuse .badArgument s := by
  rcases unknown with recipe | field
  · simp [takeRcpw, given, recipeNo?_eq_none_iff.2 recipe]
  · simp [takeRcpw, given, recipeField?_eq_none_iff.2 field]

/-- RCPW of a recipe and a field that exist: the value's range first, then the enabled flag (Table 2–4). -/
theorem takeRcpw_of_field {k : RecipeNo} {f : RecipeField} (recipe : k.val = r) (field : allFields[id]? = some f) {v : Int}
    (value : v = if id = 11 then signed else (unsigned : Int)) :
    takeRcpw args s = if f.admits v = false then refuse .badArgument s
      else if s.recipes[k].enabled = true then refuse .recipeEnabled s
      else accept (.recipeWritten k id v) (setRecipe k (s.recipes[k].put f v) s) := by
  rw [← fieldValue_eq field] at value
  subst recipe value
  have known : recipeField? id = some f := field
  simp [takeRcpw, given, known]

end

/-- Settles O10: the taking of RCPW, check by check, answered at once; a field written with a value of its range reads as that value. -/
theorem rcpwWritesOneField : Obligations.RcpwWritesOneField := by
  refine ⟨fun args s atOnce fits => ?_, fun r f g v low high => ⟨?_, Recipe.put_enabled r f v⟩⟩
  · rw [exec_rcpw atOnce fits]
    refine ⟨fun short => ?_, fun r id unsigned signed given => ⟨fun unknown => ?_, fun k f v recipe field value => ?_⟩⟩
    · rw [takeRcpw_of_short s short]
      rfl
    · rw [takeRcpw_of_unknown s given unknown]
      rfl
    · rw [takeRcpw_of_field s given recipe field value]
      refine ⟨fun outside => ?_, fun low high enabled => ?_, fun low high disabled => ?_⟩
      · have rejected : f.admits v = false := by
          rw [Bool.eq_false_iff, ne_eq, RecipeField.admits_iff]
          omega
        rw [if_pos rejected]
        rfl
      · rw [if_neg (by simp [RecipeField.admits_iff.2 ⟨low, high⟩]), if_pos enabled]
        rfl
      · rw [if_neg (by simp [RecipeField.admits_iff.2 ⟨low, high⟩]), if_neg (Bool.eq_false_iff.1 disabled)]
        rfl
  · split
    · next same => rw [same, Recipe.get_put_self (RecipeField.admits_iff.2 ⟨low, high⟩)]
    · next other => exact Recipe.get_put_of_ne other v r

/-! ### RCPE -/

/-- The consistency check names the first false condition of Table 2–5 (R26). -/
theorem Recipe.failedCondition_eq (r : Recipe) :
    r.failedCondition = if r.conditions.all id = true then 0 else r.conditions.idxOf false + 1 := by
  fun_cases Recipe.failedCondition r <;> grind [Recipe.conditions]

theorem exec_rcpe {s : State} (h : TakesAtOnce supervisorStation s) {args : List Byte} (fits : argsFit args = true) :
    exec (.rcpe 6 args) s
      = .next (answered 6 0x49 (takeRcpe args s).status (takeRcpe args s).results (takeRcpe args s).state) :=
  congrArg Host.Outcome.next (supervisor_answered (c := .rcpe) h fits rfl rfl)

/-- No recipe is named: the frame is short, or the number is above 7. -/
theorem bind_recipeNo?_eq_none {args : List Byte} (h : ∀ r : Nat, oneByte? args = some r → 7 < r) :
    (oneByte? args).bind recipeNo? = none :=
  Option.bind_eq_none_iff.2 fun r given => recipeNo?_eq_none_iff.2 (h r given)

section
variable {args : List Byte} (s : State)

theorem takeRcpe_of_unknown (unknown : (oneByte? args).bind recipeNo? = none) : takeRcpe args s = refuse .badArgument s := by
  simp [takeRcpe, unknown]

theorem takeRcpe_of_recipe {k : RecipeNo} (given : oneByte? args = some k.val) :
    takeRcpe args s = if s.recipes[k].enabled = true then accept (.recipeEnable k true 0) s
      else if s.recipes[k].failedCondition = 0 then accept (.recipeEnable k true 0) (setRecipe k (s.recipes[k].withEnabled true) s)
      else ⟨.badRecipe, .recipeEnable k false s.recipes[k].failedCondition, s⟩ := by
  simp [takeRcpe, given]

end

/-- Settles O11: the taking of RCPE, check by check, answered at once. -/
theorem rcpeChecksConsistency : Obligations.RcpeChecksConsistency := by
  intro args s atOnce fits
  rw [exec_rcpe atOnce fits]
  refine ⟨?_, fun r given => ⟨fun unknown => ?_, ?_⟩⟩
  · rintro rfl
    rfl
  · rw [takeRcpe_of_unknown s (bind_recipeNo?_eq_none fun _ same => Option.some.inj (given.symm.trans same) ▸ unknown)]
    rfl
  · rintro k rfl
    rw [takeRcpe_of_recipe s given, Recipe.failedCondition_eq]
    refine ⟨fun enabled => ?_, fun disabled consistent => ?_, fun disabled inconsistent => ?_⟩
    · rw [if_pos enabled]
      rfl
    · rw [if_neg (Bool.eq_false_iff.1 disabled), if_pos consistent, if_pos rfl]
      rfl
    · rw [if_neg (Bool.eq_false_iff.1 disabled), if_neg (Bool.eq_false_iff.1 inconsistent), if_neg (Nat.succ_ne_zero _)]

/-! ### RCPD and RCPR -/

theorem exec_rcpd {s : State} (h : TakesAtOnce supervisorStation s) {args : List Byte} (fits : argsFit args = true) :
    exec (.rcpd 6 args) s
      = .next (answered 6 0x4A (takeRcpd args s).status (takeRcpd args s).results (takeRcpd args s).state) :=
  congrArg Host.Outcome.next (supervisor_answered (c := .rcpd) h fits rfl rfl)

theorem exec_rcpr {s : State} (h : TakesAtOnce supervisorStation s) {args : List Byte} (fits : argsFit args = true) :
    exec (.rcpr 6 args) s
      = .next (answered 6 0x4B (takeRcpr args s).status (takeRcpr args s).results (takeRcpr args s).state) :=
  congrArg Host.Outcome.next (supervisor_answered (c := .rcpr) h fits rfl rfl)

section
variable {args : List Byte} (s : State)

theorem takeRcpd_of_unknown (unknown : (oneByte? args).bind recipeNo? = none) : takeRcpd args s = refuse .badArgument s := by
  simp [takeRcpd, unknown]

theorem takeRcpd_of_recipe {k : RecipeNo} (given : oneByte? args = some k.val) :
    takeRcpd args s = accept (.recipeDisabled k false) (setRecipe k (s.recipes[k].withEnabled false) s) := by
  simp [takeRcpd, given]

theorem takeRcpr_of_short (short : twoBytes? args = none) : takeRcpr args s = refuse .badArgument s := by
  simp [takeRcpr, short]

theorem takeRcpr_of_unknown {r id : Nat} (given : twoBytes? args = some (r, id)) (unknown : 7 < r ∨ 17 < id) :
    takeRcpr args s = refuse .badArgument s := by
  rcases unknown with recipe | field
  · simp [takeRcpr, given, recipeNo?_eq_none_iff.2 recipe]
  · simp [takeRcpr, given, recipeField?_eq_none_iff.2 field]

theorem takeRcpr_of_field {k : RecipeNo} {id : Nat} {f : RecipeField} (given : twoBytes? args = some (k.val, id))
    (field : allFields[id]? = some f) :
    takeRcpr args s = accept (.recipeRead k id (s.recipes[k].get f) s.recipes[k].enabled) s := by
  have known : recipeField? id = some f := field
  simp [takeRcpr, given, known]

end

/-- Settles O12: the takings of RCPD and RCPR, check by check, answered at once. -/
theorem rcpdAndRcpr : Obligations.RcpdAndRcpr := by
  intro args s atOnce fits
  rw [exec_rcpd atOnce fits, exec_rcpr atOnce fits]
  refine ⟨⟨fun short => ?_, fun r given => ⟨fun unknown => ?_, ?_⟩⟩, fun short => ?_, fun r id given => ⟨fun unknown => ?_, ?_⟩⟩
  · rw [takeRcpd_of_unknown s (by simp [short])]
    rfl
  · rw [takeRcpd_of_unknown s (bind_recipeNo?_eq_none fun _ same => Option.some.inj (given.symm.trans same) ▸ unknown)]
    rfl
  · rintro k rfl
    rw [takeRcpd_of_recipe s given]
    rfl
  · rw [takeRcpr_of_short s short]
    rfl
  · rw [takeRcpr_of_unknown s given unknown]
    rfl
  · rintro k f rfl field
    rw [takeRcpr_of_field s given field]
    rfl

/-! ### The selection -/

theorem Recipe.matchesAsh_iff {r : Recipe} {source chlorideClass moisture : Nat} :
    r.matchesAsh source chlorideClass moisture = true ↔ r.Accepts source chlorideClass moisture := by
  simp [Recipe.matchesAsh, Recipe.Accepts, and_assoc]

theorem recipeNumbers_eq : recipeNumbers = List.finRange 8 := by decide

/-- A search through the recipe numbers ends at the lowest that passes the test. -/
theorem find?_recipeNumbers_eq_some_iff {p : RecipeNo → Bool} {k : RecipeNo} :
    recipeNumbers.find? p = some k ↔ p k = true ∧ ∀ j : RecipeNo, j < k → p j = false := by
  rw [recipeNumbers_eq, List.find?_eq_some_iff_getElem]
  simp only [List.getElem_finRange, List.length_finRange, Bool.not_eq_true']
  refine and_congr_right fun _ => ⟨?_, fun lower => ⟨k.val, k.isLt, rfl, fun j less => lower ⟨j, less.trans k.isLt⟩ less⟩⟩
  rintro ⟨i, _, rfl, lower⟩ j less
  exact lower j.val less

/-- Settles O13: the selection searches the recipe numbers from the lowest on. -/
theorem selectionIsLowestMatch : Obligations.SelectionIsLowestMatch := by
  intro recipes source chlorideClass moisture
  refine ⟨fun k => ?_, ?_⟩
  · rw [selectRecipe, find?_recipeNumbers_eq_some_iff]
    simp only [← Bool.not_eq_true, Recipe.matchesAsh_iff]
  · rw [selectRecipe, recipeNumbers_eq, List.find?_eq_none]
    simp only [List.mem_finRange, forall_const, Recipe.matchesAsh_iff]

end Sys2Proof.Machine
end

section
/-! ## The dose arithmetic (R38 to R43) -/

namespace Sys2Proof.Machine

open Sys2Proof

/-! ### The two roundings -/

theorem perMilleUp_bounds (n : Nat) : n ≤ 1000 * perMilleUp n ∧ 1000 * perMilleUp n < n + 1000 := by
  unfold perMilleUp
  omega

theorem perMilleDown_bounds (n : Nat) : 1000 * perMilleDown n ≤ n ∧ n < 1000 * (perMilleDown n + 1) := by
  unfold perMilleDown
  omega

section
variable {a b low low' high high' : Nat}

theorem perMilleUp_le {bound : Nat} (ha : a ≤ high) (hb : b ≤ high') (top : high * high' ≤ 1000 * bound) :
    perMilleUp (a * b) ≤ bound := by
  have product := Nat.mul_le_mul ha hb
  have rounded := (perMilleUp_bounds (a * b)).2
  omega

theorem le_perMilleUp {bound : Nat} (ha : low ≤ a) (hb : low' ≤ b) (bottom : 1000 * bound < low * low' + 1000) :
    bound ≤ perMilleUp (a * b) := by
  have product := Nat.mul_le_mul ha hb
  have rounded := (perMilleUp_bounds (a * b)).1
  omega

theorem perMilleDown_le {bound : Nat} (ha : a ≤ high) (hb : b ≤ high') (top : high * high' < 1000 * (bound + 1)) :
    perMilleDown (a * b) ≤ bound := by
  have product := Nat.mul_le_mul ha hb
  have rounded := (perMilleDown_bounds (a * b)).1
  omega

theorem le_perMilleDown {bound : Nat} (ha : low ≤ a) (hb : low' ≤ b) (bottom : 1000 * bound ≤ low * low') :
    bound ≤ perMilleDown (a * b) := by
  have product := Nat.mul_le_mul ha hb
  have rounded := (perMilleDown_bounds (a * b)).2
  omega

end

/-! ### The ranges of the results -/

theorem dryAsh_le_wetAsh (m w : Nat) : dryAsh m w ≤ m := by
  have part : m * (1000 - w) ≤ m * 1000 := Nat.mul_le_mul_left m (Nat.sub_le 1000 w)
  have rounded := (perMilleDown_bounds (m * (1000 - w))).1
  unfold dryAsh
  omega

theorem le_dryAsh {m w : Nat} (massLow : 100 ≤ m) (moisture : w ≤ 600) : 40 ≤ dryAsh m w :=
  le_perMilleDown (low' := 400) massLow (by omega) (by decide)

/-- At most 600 parts of 1,000 of the wet ash are water, rounded up. -/
theorem ashWater_le {m w : Nat} (massHigh : m ≤ 8000) (moisture : w ≤ 600) : m - dryAsh m w ≤ 4800 := by
  have dryPart : m * 400 ≤ m * (1000 - w) := Nat.mul_le_mul_left m (by omega)
  have rounded := (perMilleDown_bounds (m * (1000 - w))).2
  unfold dryAsh
  omega

theorem effectiveTarget_dry (r : Recipe) : effectiveTarget r false = r.target * 600 := rfl

theorem effectiveTarget_wet (r : Recipe) :
    effectiveTarget r true = r.target * 600 + perMilleUp (r.target * 600 * r.wetPenalty) := rfl

/-- What the ranges of Table 2–1 say of the six fields that the arithmetic reads. -/
theorem doseFields_inRange {r : Recipe} (fields : ∀ f : RecipeField, f.admits (r.get f) = true) :
    (50 ≤ r.cementRatio ∧ r.cementRatio ≤ 800) ∧ (150 ≤ r.waterRatio ∧ r.waterRatio ≤ 700) ∧ r.additiveRatio ≤ 80
      ∧ r.wetAllowance ≤ 200 ∧ r.wetPenalty ≤ 500 ∧ (50 ≤ r.target ∧ r.target ≤ 12000) := by
  have range := fun f => RecipeField.admits_iff.1 (fields f)
  have cementRatio := range .cementRatio
  have waterRatio := range .waterRatio
  have additiveRatio := range .additiveRatio
  have wetAllowance := range .wetAllowance
  have wetPenalty := range .wetPenalty
  have target := range .target
  simp only [Recipe.get, RecipeField.low, RecipeField.high] at *
  omega

/-- Settles O14: each product is bounded by the ends of its factors' ranges, and each rounding by less than one. -/
theorem doseArithmetic : Obligations.DoseArithmetic := by
  intro r m w massLow massHigh moisture fields d
  obtain ⟨⟨cementLow, cementHigh⟩, ⟨waterLow, waterHigh⟩, additiveHigh, allowanceHigh, penaltyHigh, targetLow, targetHigh⟩ :=
    doseFields_inRange fields
  have dryLow : 40 ≤ d.dryAsh := le_dryAsh massLow moisture
  have dryHigh : d.dryAsh ≤ 8000 := (dryAsh_le_wetAsh m w).trans massHigh
  have ashWater : d.ashWater ≤ 4800 := ashWater_le massHigh moisture
  have ash : d.dryAsh + d.ashWater = m := Nat.add_sub_of_le (dryAsh_le_wetAsh m w)
  have cement : 2 ≤ d.cement ∧ d.cement ≤ 6400 :=
    ⟨le_perMilleUp dryLow cementLow (by decide), perMilleUp_le dryHigh cementHigh (by decide)⟩
  have solids : d.solids = d.dryAsh + d.cement := rfl
  have solidsLow : 42 ≤ d.solids := by omega
  have solidsHigh : d.solids ≤ 14400 := by omega
  have water : 7 ≤ d.targetWater ∧ d.targetWater ≤ 10080 :=
    ⟨le_perMilleUp solidsLow waterLow (by decide), perMilleUp_le solidsHigh waterHigh (by decide)⟩
  have additive : d.additive ≤ 640 := perMilleUp_le dryHigh additiveHigh (by decide)
  have allowance : d.allowance ≤ 2880 := perMilleDown_le solidsHigh allowanceHigh (by decide)
  have excess : d.excess = (d.ashWater : Int) - d.targetWater := rfl
  have added : d.water = d.targetWater - d.ashWater := rfl
  have penalty : perMilleUp (r.target * 600 * r.wetPenalty) ≤ 3600000 :=
    perMilleUp_le (Nat.mul_le_mul_right 600 targetHigh) penaltyHigh (by decide)
  refine ⟨⟨(perMilleDown_bounds _).1, (perMilleDown_bounds _).2, ash⟩, perMilleUp_bounds _, solids, perMilleUp_bounds _,
    perMilleUp_bounds _, perMilleDown_bounds _, excess, fun dry => ⟨?_, by omega⟩, fun wet => ⟨Dose.wet_iff.2 wet, by omega⟩,
    effectiveTarget_dry r, ?_, ⟨dryLow, dryHigh, ashWater⟩, ⟨cement.1, cement.2, solidsLow, solidsHigh⟩,
    ⟨water.1, water.2, additive, allowance⟩, by omega, ?_, ?_⟩
  · rw [← Bool.not_eq_true, Dose.wet_iff]
    omega
  · rw [effectiveTarget_wet, Nat.add_sub_cancel_left]
    exact perMilleUp_bounds _
  · rw [effectiveTarget_dry]
    omega
  · rw [effectiveTarget_wet]
    omega

end Sys2Proof.Machine
end

section
/-! ## DOSQ (R35, R36, R42, R45, R46, R51) -/

namespace Sys2Proof.Machine

open Sys2Proof

theorem exec_dosq {n : Line} {s : State} (h : TakesAtOnce (mixerStation n) s) {args : List Byte} (fits : argsFit args = true) :
    exec (.dosq (mixerStation n) args) s = .next (placeAnswer (mixerStation n) 0x10 (takeDosq n args s)) := by
  have arrived := arriveCommand_of_takesAtOnce (c := .dosq) h fits (by rw [roleOf_mixerStation]; rfl)
  simp only [deliver, lineOf_mixerStation] at arrived
  exact congrArg Host.Outcome.next arrived

theorem doseRequest?_of_short {args : List Byte} (short : args.length < 6) : doseRequest? args = none := by
  unfold doseRequest?
  split
  · simp only [List.length_cons] at short
    omega
  · rfl

theorem DoseRequest.inRange_iff {q : DoseRequest} : q.inRange = true ↔
    100 ≤ q.wetAsh ∧ q.wetAsh ≤ 8000 ∧ q.moisture ≤ 600 ∧ q.chlorideClass ≤ 7 ∧ q.source ≤ 3 := by
  simp [DoseRequest.inRange, and_assoc]

/-! ### Checks 2 to 7 -/

section
variable {n : Line} {args : List Byte} (s : State)

theorem takeDosq_of_short (short : args.length < 6) : takeDosq n args s = refuse .badArgument s := by
  simp [takeDosq, doseRequest?_of_short short]

variable {s} {q : DoseRequest} (given : doseRequest? args = some q)
include given

theorem takeDosq_of_outOfRange (outside : q.inRange = false) : takeDosq n args s = refuse .badArgument s := by
  simp [takeDosq, given, outside]

variable (range : q.inRange = true)
include range

theorem takeDosq_of_halt (halt : s.haltRegistered = true) : takeDosq n args s = refuse .plantHalted s := by
  simp [takeDosq, given, range, halt]

variable (running : s.haltRegistered = false)
include running

theorem takeDosq_of_dosed {serial remaining warning : Nat} (line : s.lines[n] = .dosed serial remaining warning) :
    takeDosq n args s = refuse .lineBusy s := by
  simp [takeDosq, given, range, running, line]

theorem takeDosq_of_void {serial : Nat} (line : s.lines[n] = .void serial) : takeDosq n args s = refuse .lineBlocked s := by
  simp [takeDosq, given, range, running, line]

variable (idle : s.lines[n] = .idle)
include idle

theorem takeDosq_of_full (full : 64 ≤ s.lots.length) : takeDosq n args s = refuse .tableFull s := by
  simp [takeDosq, given, range, running, idle, State.liveCount, Config.lotRecords, full]

variable (room : s.lots.length < 64)
include room

theorem takeDosq_of_noRecipe (unmatched : selectRecipe s.recipes q.source q.chlorideClass q.moisture = none) :
    takeDosq n args s = refuse .noRecipe s := by
  simp [takeDosq, given, range, running, idle, State.liveCount, Config.lotRecords, room, unmatched]

theorem takeDosq_of_recipe {k : RecipeNo} (selected : selectRecipe s.recipes q.source q.chlorideClass q.moisture = some k) :
    takeDosq n args s = doseWith n q k s := by
  simp [takeDosq, given, range, running, idle, State.liveCount, Config.lotRecords, room, selected]

end

/-! ### Checks 8 and 9 -/

theorem Dose.tooWet_iff {d : Dose} : d.tooWet = true ↔ (d.allowance : Int) < d.excess := by simp [Dose.tooWet]

/-- No mass of the dose exceeds its limit (R42). -/
structure Dose.Within (d : Dose) (lim : LineLimits) : Prop where
  cement : d.cement ≤ lim.cementMax
  water : d.water ≤ lim.waterMax
  additive : d.additive ≤ lim.additiveMax

section
variable {d : Dose} {lim : LineLimits}

theorem doseStatus_of_tooWet (beyond : (d.allowance : Int) < d.excess) : doseStatus d lim = .tooWet := by
  simp [doseStatus, Dose.tooWet_iff.2 beyond]

variable (allowed : d.excess ≤ d.allowance)
include allowed

/-- Within the wet allowance the masses are checked: cement, water, additive. -/
theorem doseStatus_of_allowed : doseStatus d lim = if lim.cementMax < d.cement then .overCement
    else if lim.waterMax < d.water then .overWater
    else if lim.additiveMax < d.additive then .overAdditive
    else if 0 < d.excess then .okWet else .ok := by
  have notTooWet : ¬ d.tooWet = true := fun tooWet => absurd (Dose.tooWet_iff.1 tooWet) (Int.not_lt.2 allowed)
  simp only [doseStatus, if_neg notTooWet, Dose.wet_iff]

theorem doseStatus_of_overCement (exceeds : lim.cementMax < d.cement) : doseStatus d lim = .overCement := by
  rw [doseStatus_of_allowed allowed, if_pos exceeds]

theorem doseStatus_of_overWater (cement : d.cement ≤ lim.cementMax) (exceeds : lim.waterMax < d.water) :
    doseStatus d lim = .overWater := by
  rw [doseStatus_of_allowed allowed, if_neg (Nat.not_lt.2 cement), if_pos exceeds]

theorem doseStatus_of_overAdditive (cement : d.cement ≤ lim.cementMax) (water : d.water ≤ lim.waterMax)
    (exceeds : lim.additiveMax < d.additive) : doseStatus d lim = .overAdditive := by
  rw [doseStatus_of_allowed allowed, if_neg (Nat.not_lt.2 cement), if_neg (Nat.not_lt.2 water), if_pos exceeds]

theorem doseStatus_of_within (within : d.Within lim) : doseStatus d lim = if 0 < d.excess then .okWet else .ok := by
  rw [doseStatus_of_allowed allowed, if_neg (Nat.not_lt.2 within.cement), if_neg (Nat.not_lt.2 within.water),
    if_neg (Nat.not_lt.2 within.additive)]

end

/-- A dose that passes checks 8 and 9 is within the limits. -/
theorem Dose.within_of_doseStatus {d : Dose} {lim : LineLimits} (passed : doseStatus d lim = .ok ∨ doseStatus d lim = .okWet) :
    d.Within lim := by
  revert passed
  fun_cases doseStatus d lim
  case case5 cement water additive _ | case6 cement water additive _ =>
    exact fun _ => ⟨Nat.not_lt.1 cement, Nat.not_lt.1 water, Nat.not_lt.1 additive⟩
  all_goals exact fun passed => passed.elim nofun nofun

section
variable {n : Line} {q : DoseRequest} {k : RecipeNo} {s : State} {d : Dose} (dose : d = computeDose s.recipes[k] q.wetAsh q.moisture)
include dose

theorem doseWith_of_tooWet (refused : doseStatus d s.limits[n] = .tooWet) :
    doseWith n q k s = ⟨.tooWet, .tooWet d.excess d.allowance, s⟩ := by
  subst dose
  simp only [doseWith, refused]

/-- A dose refused by check 9 is answered with its masses (Table 3–5). -/
theorem doseWith_of_over {refusal : Status} (exceeds : refusal = .overCement ∨ refusal = .overWater ∨ refusal = .overAdditive)
    (refused : doseStatus d s.limits[n] = refusal) : doseWith n q k s = ⟨refusal, d.results, s⟩ := by
  subst dose
  rcases exceeds with rfl | rfl | rfl <;> simp only [doseWith, refused]

theorem doseWith_of_passed {passed : Status} (ok : passed = .ok ∨ passed = .okWet) (status : doseStatus d s.limits[n] = passed) :
    doseWith n q k s = ⟨passed, d.results, openDose n q k s⟩ := by
  subst dose
  rcases ok with rfl | rfl <;> simp only [doseWith, status]

end

/-- DOSQ's taking of a selected recipe has the status of checks 8 and 9. -/
theorem doseWith_status (n : Line) (q : DoseRequest) (k : RecipeNo) (s : State) :
    (doseWith n q k s).status = doseStatus (computeDose s.recipes[k] q.wetAsh q.moisture) s.limits[n] := by
  unfold doseWith
  dsimp only
  split <;> simp_all

/-- A DOSQ that is taken OK or OK_WET opened a dose within the line's limits. -/
theorem takeDosq_accepted {n : Line} {args : List Byte} {s : State}
    (accepted : (takeDosq n args s).status = .ok ∨ (takeDosq n args s).status = .okWet) :
    ∃ (q : DoseRequest) (k : RecipeNo) (d : Dose), d = computeDose s.recipes[k] q.wetAsh q.moisture ∧ d.Within s.limits[n]
      ∧ (takeDosq n args s).results = d.results ∧ (takeDosq n args s).state = openDose n q k s := by
  revert accepted
  fun_cases takeDosq n args s
  case case8 q _ _ _ _ _ k _ =>
    intro accepted
    rw [doseWith_status] at accepted
    refine ⟨q, k, _, rfl, Dose.within_of_doseStatus accepted, ?_⟩
    rw [doseWith_of_passed rfl accepted rfl]
    exact ⟨rfl, rfl⟩
  all_goals exact fun accepted => accepted.elim nofun nofun

/-- The permit of a line that is dosed while no halt is registered follows READY (R65). -/
theorem permitLevel_dosed (serial remaining warning : Nat) (ready : Bool) :
    permitLevel (.dosed serial remaining warning) false ready = ready := by
  simp [permitLevel, LineRecord.isDosed]

/-! ### The obligations -/

/-- Settles O15: the taking of DOSQ, check by check, answered at once. -/
theorem dosqRefusalOrder : Obligations.DosqRefusalOrder := by
  intro n args s atOnce fits
  rw [exec_dosq atOnce fits]
  refine ⟨fun short => by rw [takeDosq_of_short s short]; rfl, fun q given => ⟨fun outside => ?_, ?_⟩⟩
  · have rejected : q.inRange = false := by
      rw [← Bool.not_eq_true, DoseRequest.inRange_iff]
      omega
    rw [takeDosq_of_outOfRange given rejected]
    rfl
  intro massLow massHigh moisture chloride source
  have range := DoseRequest.inRange_iff.2 ⟨massLow, massHigh, moisture, chloride, source⟩
  refine ⟨fun halt => by rw [takeDosq_of_halt given range halt]; rfl, fun running => ⟨?_, ?_, fun idle => ⟨?_, fun room => ⟨?_, ?_⟩⟩⟩⟩
  · intro serial remaining warning line
    rw [takeDosq_of_dosed given range running line]
    rfl
  · intro serial line
    rw [takeDosq_of_void given range running line]
    rfl
  · intro full
    rw [takeDosq_of_full given range running idle full]
    rfl
  · intro unmatched
    rw [takeDosq_of_noRecipe given range running idle room ((selectionIsLowestMatch _ _ _ _).2.2 unmatched)]
    rfl
  · intro k d selected dose
    rw [takeDosq_of_recipe given range running idle room selected]
    refine ⟨fun beyond => ?_, fun allowed exceeds => ?_, fun allowed cement exceeds => ?_, fun allowed cement water exceeds => ?_⟩
    · rw [doseWith_of_tooWet dose (doseStatus_of_tooWet beyond)]
      rfl
    · rw [doseWith_of_over dose (.inl rfl) (doseStatus_of_overCement allowed exceeds)]
      rfl
    · rw [doseWith_of_over dose (.inr (.inl rfl)) (doseStatus_of_overWater allowed cement exceeds)]
      rfl
    · rw [doseWith_of_over dose (.inr (.inr rfl)) (doseStatus_of_overAdditive allowed cement water exceeds)]
      rfl

/-- Settles O16: past every check the taking opens the dose, which is one record update. -/
theorem dosqAccepted : Obligations.DosqAccepted := by
  intro n args s q k d atOnce fits given massLow massHigh moisture chloride source running idle room selected dose allowed cement water
    additive
  have range := DoseRequest.inRange_iff.2 ⟨massLow, massHigh, moisture, chloride, source⟩
  have status := doseStatus_of_within allowed ⟨cement, water, additive⟩
  have passed : (if 0 < d.excess then Status.okWet else .ok) = .ok ∨ (if 0 < d.excess then Status.okWet else .ok) = .okWet := by
    split_ifs <;> simp
  rw [exec_dosq atOnce fits, takeDosq_of_recipe given range running idle room selected, doseWith_of_passed dose passed status,
    placeAnswer_eq]
  subst dose
  simp only [openDose, setLine, createLot_haltRegistered, createLot_ready, running, permitLevel_dosed]
  rfl

/-- Settles O17: an accepted DOSQ passed checks 8 and 9, and records and answers the masses that it checked. -/
theorem dosesStayWithinLimits : Obligations.DosesStayWithinLimits := by
  intro n args s t a atOnce fits next placed accepted
  rw [exec_dosq atOnce fits] at next
  cases next
  have answer : (placeAnswer (mixerStation n) 0x10 (takeDosq n args s)).answers[mixerStation n]
      = some ⟨0x10, (takeDosq n args s).status, (takeDosq n args s).state.lostMarks[mixerStation n], (takeDosq n args s).results⟩ := by
    simp [placeAnswer]
  obtain rfl := Option.some.inj (placed.symm.trans answer)
  obtain ⟨q, k, d, rfl, within, results, state⟩ := takeDosq_accepted accepted
  refine ⟨_, _, _, results, within.cement, within.water, within.additive, ?_⟩
  rw [placeAnswer_eq, state]
  exact ⟨rfl, _, rfl, rfl, rfl, rfl⟩

end Sys2Proof.Machine
end

section
/-! ## SPAR of the line dosing limits (R48, R49) -/

namespace Sys2Proof.Machine

open Sys2Proof

/-! ### The three limits as one -/

/-- The taking of SPAR for a line's dosing limit, given the parameter, its range and the limit that it writes (R49). -/
def takeLimit (parameter low high : Nat) (put : Nat → LineLimits → LineLimits) (index value : Nat) (s : State) : Taken :=
  match line? index with
  | none => refuse .badArgument s
  | some n =>
    if low ≤ value ∧ value ≤ high then acceptParameter parameter index value (setLimits n (put value s.limits[n]) s)
    else refuse .badArgument s

theorem takeCementMax_eq : takeCementMax = takeLimit 0 50 4000 fun v lim => { lim with cementMax := v } := by
  funext index value s
  simp only [takeCementMax, takeLimit]
  split <;> grind

theorem takeWaterMax_eq : takeWaterMax = takeLimit 1 50 4000 fun v lim => { lim with waterMax := v } := by
  funext index value s
  simp only [takeWaterMax, takeLimit]
  split <;> grind

theorem takeAdditiveMax_eq : takeAdditiveMax = takeLimit 2 0 400 fun v lim => { lim with additiveMax := v } := by
  funext index value s
  simp only [takeAdditiveMax, takeLimit]
  split <;> grind

theorem line?_eq_none_iff {index : Nat} : line? index = none ↔ 3 < index := by
  simp only [line?, dite_eq_right_iff, reduceCtorEq, imp_false, not_lt]
  omega

@[simp] theorem line?_val (n : Line) : line? n.val = some n := by simp [line?, n.isLt]

section
variable {parameter low high : Nat} {put : Nat → LineLimits → LineLimits} {index value : Nat} (s : State)

theorem takeLimit_of_outside (outside : 3 < index ∨ value < low ∨ high < value) :
    takeLimit parameter low high put index value s = refuse .badArgument s := by
  unfold takeLimit
  split
  · rfl
  · next n known =>
    have line : ¬ 3 < index := fun unknown => by simp [line?_eq_none_iff.2 unknown] at known
    rw [if_neg (by omega)]

theorem takeLimit_of_line {n : Line} (known : n.val = index) (above : low ≤ value) (below : value ≤ high) :
    takeLimit parameter low high put index value s
      = acceptParameter parameter n.val value (setLimits n (put value s.limits[n]) s) := by
  subst known
  simp [takeLimit, above, below]

end

/-! ### The frames of SPAR -/

theorem exec_spar {s : State} (h : TakesAtOnce supervisorStation s) {data : List Byte} (fits : argsFit data = true) :
    exec (.commandFrameArrival 6 (0x4D :: data)) s = .next (placeAnswer 6 0x4D (takeSpar data s)) :=
  congrArg Host.Outcome.next (supervisor_answered (c := .spar) h fits rfl rfl)

theorem takeSpar_of_short {data : List Byte} (s : State) (short : data.length < 4) : takeSpar data s = refuse .badArgument s := by
  have absent : parameter? data = none := by
    unfold parameter?
    split
    · simp only [List.length_cons] at short
      omega
    · rfl
  simp [takeSpar, absent]

theorem takeSpar_of_unknown {data : List Byte} {p index value : Nat} (s : State) (given : parameter? data = some (p, index, value))
    (unknown : 5 < p) : takeSpar data s = refuse .badArgument s := by
  simp only [takeSpar, given]
  split
  case h_7 => rfl
  all_goals omega

section
variable {s : State} (h : TakesAtOnce supervisorStation s) {i hi lo : Byte} {rest : List Byte}
  (fits : parameterArgsFit (i :: hi :: lo :: rest) = true)
include h fits

theorem exec_cementMax : exec (.cementMax 6 (i :: hi :: lo :: rest)) s
    = .next (placeAnswer 6 0x4D (takeCementMax i.toNat (beNat [hi, lo]) s)) :=
  congrArg Host.Outcome.next (arriveParameter_of_takesAtOnce (p := 0) h fits)

theorem exec_waterMax : exec (.waterMax 6 (i :: hi :: lo :: rest)) s
    = .next (placeAnswer 6 0x4D (takeWaterMax i.toNat (beNat [hi, lo]) s)) :=
  congrArg Host.Outcome.next (arriveParameter_of_takesAtOnce (p := 1) h fits)

theorem exec_additiveMax : exec (.additiveMax 6 (i :: hi :: lo :: rest)) s
    = .next (placeAnswer 6 0x4D (takeAdditiveMax i.toNat (beNat [hi, lo]) s)) :=
  congrArg Host.Outcome.next (arriveParameter_of_takesAtOnce (p := 2) h fits)

end

/-- Settles O18: the taking of SPAR, and of the three dosing limits as one, answered at once. -/
theorem sparSetsLineLimits : Obligations.SparSetsLineLimits := by
  intro s atOnce
  refine ⟨fun data short => ?_, fun p i hi lo rest fits unknown => ?_, ?_⟩
  · have fits : argsFit data = true := by
      simp only [argsFit, Config.frameBytes, decide_eq_true_eq]
      omega
    rw [exec_spar atOnce fits, takeSpar_of_short s short]
    rfl
  · rw [exec_spar atOnce fits, takeSpar_of_unknown s rfl unknown]
    rfl
  · rintro i hi lo rest v fits rfl
    rw [exec_cementMax atOnce fits, exec_waterMax atOnce fits, exec_additiveMax atOnce fits, takeCementMax_eq, takeWaterMax_eq,
      takeAdditiveMax_eq]
    refine ⟨fun outside => ?_, fun outside => ?_, fun n known => ⟨fun above below => ?_, fun below => ?_⟩⟩
    · rw [takeLimit_of_outside s outside, takeLimit_of_outside s outside]
      exact ⟨rfl, rfl⟩
    · rw [takeLimit_of_outside s (outside.imp_right .inr)]
      rfl
    · rw [takeLimit_of_line s known above below, takeLimit_of_line s known above below]
      exact ⟨rfl, rfl⟩
    · rw [takeLimit_of_line s known (Nat.zero_le _) below]
      rfl

end Sys2Proof.Machine
end

section
/-! ## The feed permits (R65)

The law of the permits reads four fields of the state. What each taking and event does is said of these alone: most leave them, a few set
a line with its permit, and a registration or a start sets every permit at once. -/

namespace Sys2Proof.Machine

open Sys2Proof

/-- What the law of the feed permits reads of a state. -/
structure Feed where
  lines : Vector LineRecord 4
  permits : Vector Bool 4
  haltRegistered : Bool
  ready : Bool

def State.feed (s : State) : Feed where
  lines := s.lines
  permits := s.permits
  haltRegistered := s.haltRegistered
  ready := s.ready

theorem PermitLaw.of_feed {s t : State} (same : t.feed = s.feed) (h : PermitLaw s) : PermitLaw t := by
  obtain ⟨lines, permits, halt, ready⟩ := Feed.mk.inj same
  simpa only [PermitLaw, lines, permits, halt, ready] using h

/-! ### The operations that set permits -/

/-- A line set to a record has the permit of that record, and the other lines keep theirs (R65). -/
theorem PermitLaw.setLine {s : State} (h : PermitLaw s) (n : Line) (r : LineRecord) : PermitLaw (setLine n r s) := by
  intro m
  rw [setLine_permits_get, setLine_lines_get, setLine_haltRegistered, setLine_ready]
  split
  · rfl
  · exact h m

/-- A registration sets every permit (R67, R68). -/
theorem permitLaw_registerHalt (level : Bool) (s : State) : PermitLaw (registerHalt level s) :=
  fun n => registerHalt_permits_get s level n

/-- Step 4 of a start sets every permit (R166). -/
theorem permitLaw_sampleHalt (s : State) : PermitLaw (sampleHalt s) := by
  intro n
  simp [sampleHalt]

/-- Permits that are off are lawful while READY is off. -/
theorem permitLaw_of_off {s : State} (permits : s.permits = Vector.replicate 4 false) (ready : s.ready = false) : PermitLaw s := by
  intro n
  simp [permits, ready, permitLevel]

/-- R57, R63: a voided dose takes its permit with it. -/
theorem PermitLaw.voidDose {s : State} (h : PermitLaw s) (n : Line) (serial : Nat) : PermitLaw (voidDose n serial s) :=
  PermitLaw.of_feed (s := Machine.setLine n (.void serial) (changeLot serial (Lot.withState .void) s)) rfl
    (PermitLaw.setLine (s := changeLot serial (Lot.withState .void) s) h n _)

/-! ### The takings that leave the feed -/

section
variable (args : List Byte) (s : State)

theorem takeTmpr_feed : (takeTmpr args s).state.feed = s.feed := by
  have reading (b : Bay) (t : Int) (s : State) : (takeReading b t s).feed = s.feed := by
    fun_cases takeReading b t s <;> simp [State.feed]
  fun_cases takeTmpr args s <;> simp [reading]

theorem takeLaneLock_feed (locked : Bool) : (takeLaneLock locked args s).state.feed = s.feed := by
  fun_cases takeLaneLock locked args s <;> rfl

theorem takeClnx_feed : (takeClnx args s).state.feed = s.feed := by
  fun_cases takeClnx args s <;> simp [State.feed, claimHead]

theorem takeCnfm_feed : (takeCnfm args s).state.feed = s.feed := by
  fun_cases takeCnfm args s <;> simp +zetaDelta [State.feed, confirmLot]

theorem takeRtrn_feed : (takeRtrn args s).state.feed = s.feed := by
  fun_cases takeRtrn args s <;> simp +zetaDelta [State.feed]

theorem takeHold_feed : (takeHold args s).state.feed = s.feed := by
  fun_cases takeHold args s <;> simp [State.feed, holdLot, holdClaimed]

theorem unholdLot_feed (l : Lot) : (unholdLot l s).feed = s.feed := by
  unfold unholdLot
  dsimp only
  split_ifs <;> simp [State.feed]

theorem takeUnhd_feed : (takeUnhd args s).state.feed = s.feed := by
  fun_cases takeUnhd args s <;> simp +zetaDelta [unholdLot_feed]

theorem rejectLot_feed (l : Lot) : (rejectLot l s).feed = s.feed := by
  unfold rejectLot
  dsimp only
  split_ifs <;> simp [State.feed]

theorem takeClrb_feed : (takeClrb args s).state.feed = s.feed := by
  fun_cases takeClrb args s <;> simp [State.feed]

theorem extendLot_feed (l : Lot) (minutes : Nat) : (extendLot l minutes s).feed = s.feed := by
  unfold extendLot
  dsimp only
  split_ifs <;> simp [State.feed]

theorem takeExtd_feed : (takeExtd args s).state.feed = s.feed := by
  fun_cases takeExtd args s <;> simp [extendLot_feed]

theorem takeRcpw_feed : (takeRcpw args s).state.feed = s.feed := by
  fun_cases takeRcpw args s <;> rfl

theorem takeRcpe_feed : (takeRcpe args s).state.feed = s.feed := by
  fun_cases takeRcpe args s <;> rfl

theorem takeRcpd_feed : (takeRcpd args s).state.feed = s.feed := by
  fun_cases takeRcpd args s <;> rfl

theorem takeRcpr_feed : (takeRcpr args s).state.feed = s.feed := by
  fun_cases takeRcpr args s <;> rfl

theorem takeStim_feed : (takeStim args s).state.feed = s.feed := by
  fun_cases takeStim args s <;> simp [State.feed, zeroTimeBase, setPlantMinute]

/-- SPAR of any parameter sets a limit, a capacity or a time of its own. -/
theorem takeSpar_feed : (takeSpar args s).state.feed = s.feed := by
  fun_cases takeSpar args s
  case case2 index value _ => fun_cases takeCementMax index value s <;> rfl
  case case3 index value _ => fun_cases takeWaterMax index value s <;> rfl
  case case4 index value _ => fun_cases takeAdditiveMax index value s <;> rfl
  case case5 index value _ => fun_cases takeStaleLimit index value s <;> rfl
  case case6 index value _ => fun_cases takeBayCapacity index value s <;> rfl
  case case7 index value _ => fun_cases takeClaimTimeout index value s <;> rfl
  all_goals rfl

theorem takeAtcl_feed (st : Station) : (takeAtcl st args s).state.feed = s.feed := by
  fun_cases takeAtcl st args s <;> rfl

theorem takeAtmk_feed (st : Station) : (takeAtmk st args s).state.feed = s.feed := by
  fun_cases takeAtmk st args s <;> rfl

end

/-! ### The takings that set a line -/

section
variable {s : State} (h : PermitLaw s)
include h

theorem takeDosq_permits (n : Line) (args : List Byte) : PermitLaw (takeDosq n args s).state := by
  fun_cases takeDosq n args s
  case case8 q _ _ _ _ _ k _ =>
    unfold doseWith
    dsimp only
    split
    case h_2 | h_3 => exact PermitLaw.setLine (s := createLot _ s) h n _
    all_goals exact h
  all_goals exact h

theorem takeDsch_permits (n : Line) (args : List Byte) : PermitLaw (takeDsch n args s).state := by
  fun_cases takeDsch n args s
  case case6 b _ serial _ _ _ _ _ => exact PermitLaw.setLine (s := placeLot b serial s) h n _
  all_goals exact h

theorem takeAbdn_permits (n : Line) : PermitLaw (takeAbdn n s).state := by
  fun_cases takeAbdn n s
  case case1 => exact h
  case case2 serial _ _ _ | case3 serial _ => exact PermitLaw.setLine (s := freeLot serial s) h n _

theorem takeRjct_permits (args : List Byte) : PermitLaw (takeRjct args s).state := by
  fun_cases takeRjct args s
  case case3 serial _ l _ _ => exact h.voidDose l.line serial
  case case4 | case5 | case6 | case7 => exact h.of_feed (rejectLot_feed s _)
  all_goals exact h

/-- The owner's taking of any command keeps the permits lawful. -/
theorem deliver_permits (c : CommandCode) (st : Station) (args : List Byte) : PermitLaw (deliver c st args s).state := by
  cases c <;> unfold deliver <;> dsimp only
  case dosq => exact takeDosq_permits h _ args
  case dsch => exact takeDsch_permits h _ args
  case abdn => exact takeAbdn_permits h _
  case rjct => exact takeRjct_permits h args
  case tmpr => exact h.of_feed (takeTmpr_feed args s)
  case clnx => exact h.of_feed (takeClnx_feed args s)
  case cnfm => exact h.of_feed (takeCnfm_feed args s)
  case rtrn => exact h.of_feed (takeRtrn_feed args s)
  case hold => exact h.of_feed (takeHold_feed args s)
  case unhd => exact h.of_feed (takeUnhd_feed args s)
  case clrb => exact h.of_feed (takeClrb_feed args s)
  case extd => exact h.of_feed (takeExtd_feed args s)
  case lock | ulck => exact h.of_feed (takeLaneLock_feed args s _)
  case rcpw => exact h.of_feed (takeRcpw_feed args s)
  case rcpe => exact h.of_feed (takeRcpe_feed args s)
  case rcpd => exact h.of_feed (takeRcpd_feed args s)
  case rcpr => exact h.of_feed (takeRcpr_feed args s)
  case stim => exact h.of_feed (takeStim_feed args s)
  case spar => exact h.of_feed (takeSpar_feed args s)
  case qlot => rwa [takeQlot_state]
  case qrel => rwa [takeQrel_state]
  case atcl => exact h.of_feed (takeAtcl_feed args s st)
  case atmk => exact h.of_feed (takeAtmk_feed args s st)
  case atrd | qlin | rstw | rstc => exact h

end

/-! ### The time base -/

section
variable (s : State)

theorem expireClaims_feed : (expireClaims s).feed = s.feed := by
  have ended (claims : List Claim) : (claims.foldr expireClaim s).feed = s.feed := by
    induction claims with
    | nil => rfl
    | cons c rest ih => exact ih
  rw [← ended (s.claims.filter Claim.ends)]
  simp [State.feed, expireClaims]

theorem runClaims_feed : (runClaims s).feed = s.feed := by
  show State.feed (if s.claims.any Claim.ends then expireClaims s else s) = s.feed
  split_ifs
  · exact expireClaims_feed s
  · rfl

theorem judgeLot_feed (serial : Nat) : (judgeLot serial s).feed = s.feed := by
  have heat (l : Lot) (s : State) : (judgeHeat l s).feed = s.feed := by
    fun_cases judgeHeat l s
    case case1 =>
      unfold holdForHeat
      dsimp only
      split_ifs <;> rfl
    all_goals rfl
  have join (serial : Nat) (s : State) : (judgeJoin serial s).feed = s.feed := by
    fun_cases judgeJoin serial s <;> rfl
  fun_cases judgeLot serial s
  case case1 => exact (join _ _).trans (heat _ _)
  all_goals rfl

theorem judgeLots_feed (serials : List Nat) : (judgeLots serials s).feed = s.feed := by
  induction serials generalizing s with
  | nil => rfl
  | cons serial rest ih => exact (ih _).trans (judgeLot_feed s serial)

theorem reportInterval_feed : (reportInterval s).feed = s.feed := by simp [State.feed, reportInterval]

theorem takeInterval_feed : (takeInterval s).feed = s.feed := by
  rw [takeInterval, reportInterval_feed, judgeLots_feed]
  rfl

/-- After step 4 a start leaves the feed. -/
theorem completeStart_feed : (completeStart s).feed = (sampleHalt (startActions s)).feed := by
  simp [State.feed, completeStart, enterService, zeroTimeBase, reportStart, reportVoided]

variable {s} (h : PermitLaw s)
include h

theorem expireWindow_permits (n : Line) : PermitLaw (expireWindow n s) := by
  fun_cases expireWindow n s
  case case1 serial _ _ _ => exact h.voidDose n serial
  all_goals exact h

theorem runWindow_permits (n : Line) : PermitLaw (runWindow n s) := by
  fun_cases runWindow n s
  case case1 => exact expireWindow_permits h n
  case case2 | case3 => exact h.setLine n (.dosed _ _ _)
  all_goals exact h

theorem runWindows_permits : PermitLaw (runWindows s) :=
  runWindow_permits (runWindow_permits (runWindow_permits (runWindow_permits h 0) 1) 2) 3

theorem takeSecond_permits : PermitLaw (takeSecond s) := by
  have run : PermitLaw (runClaims (runWindows (countSecond s))) :=
    (runWindows_permits (s := countSecond s) h).of_feed (runClaims_feed _)
  fun_cases takeSecond s
  case case1 => exact run.of_feed (takeInterval_feed _)
  case case2 => exact run

end

/-! ### Every step -/

theorem permits_stepKept : StepKept PermitLaw where
  link change h := by
    rw [change]
    exact h
  taken c st args _ h := deliver_permits h c st args
  second _ h := takeSecond_permits h
  window n _ _ h := expireWindow_permits h n
  claims _ h := h.of_feed (expireClaims_feed _)
  interval _ h n := h.of_feed (takeInterval_feed _) n
  haltInput _ _ h := h
  halt level s _ _ := (permitLaw_registerHalt level s).of_feed (by simp [State.feed])
  begins _ _ _ := permitLaw_of_off rfl rfl
  completes {s} _ _ := (permitLaw_sampleHalt (startActions s)).of_feed (completeStart_feed s)
  fails _ h := h
  resets _ := permitLaw_of_off rfl rfl
  powerLoss _ := permitLaw_of_off rfl rfl
  latch _ h := h

/-- Settles O51: every taking and event leaves the feed, sets a line with its permit, or sets every permit. -/
theorem stepsKeepPermits : Obligations.StepsKeepPermits := fun _ _ h next => permits_stepKept.step next h

end Sys2Proof.Machine
end

section
/-! ## The mixers' DSCH, ABDN and QLIN (R58 to R64) -/

namespace Sys2Proof.Machine

open Sys2Proof

/-- A mixer's command that is taken at once is answered as its owner's taking has it. -/
theorem mixer_answered {c : CommandCode} {n : Line} {s : State} (h : TakesAtOnce (mixerStation n) s) {args : List Byte}
    (fits : argsFit args = true) (permitted : c.permits .mixer = true) {t : Taken}
    (taken : deliver c (mixerStation n) args s = t) :
    arriveCommand c (mixerStation n) args s = answered (mixerStation n) c.byte t.status t.results t.state := by
  rw [arriveCommand_of_takesAtOnce h fits (by rwa [roleOf_mixerStation]), taken]

section
variable {n : Line} {s : State} (h : TakesAtOnce (mixerStation n) s) {args : List Byte} (fits : argsFit args = true)
include h fits

theorem exec_dsch : exec (.dsch (mixerStation n) args) s = .next (placeAnswer (mixerStation n) 0x11 (takeDsch n args s)) :=
  congrArg Host.Outcome.next (mixer_answered (c := .dsch) h fits rfl (by rw [deliver, lineOf_mixerStation]))

theorem exec_abdn : exec (.abdn (mixerStation n) args) s = .next (placeAnswer (mixerStation n) 0x12 (takeAbdn n s)) :=
  congrArg Host.Outcome.next (mixer_answered (c := .abdn) h fits rfl (by rw [deliver, lineOf_mixerStation]))

theorem exec_qlin : exec (.qlin (mixerStation n) args) s = .next (placeAnswer (mixerStation n) 0x13 (takeQlin n s)) :=
  congrArg Host.Outcome.next (mixer_answered (c := .qlin) h fits rfl (by rw [deliver, lineOf_mixerStation]))

end

/-! ### DSCH -/

theorem bay?_eq_none_iff {bay : Nat} : bay? bay = none ↔ 15 < bay := by
  simp only [bay?, dite_eq_right_iff, reduceCtorEq, imp_false, not_lt]
  omega

@[simp] theorem bay?_val (b : Bay) : bay? b.val = some b := by simp [bay?, b.isLt]

section
variable {n : Line} {args : List Byte} (s : State)

theorem takeDsch_of_empty : takeDsch n [] s = refuse .badArgument s := rfl

theorem takeDsch_of_noBay {bay : Nat} (given : oneByte? args = some bay) (noBay : 15 < bay) :
    takeDsch n args s = refuse .badArgument s := by
  simp [takeDsch, given, bay?_eq_none_iff.2 noBay]

variable {s} {b : Bay} (given : oneByte? args = some b.val)
include given

theorem takeDsch_of_idle (line : s.lines[n] = .idle) : takeDsch n args s = refuse .noDose s := by
  simp [takeDsch, given, line]

theorem takeDsch_of_void {serial : Nat} (line : s.lines[n] = .void serial) : takeDsch n args s = refuse .wrongState s := by
  simp [takeDsch, given, line]

variable {serial remaining warning : Nat} (line : s.lines[n] = .dosed serial remaining warning)
include line

theorem takeDsch_of_locked (locked : s.lanes[b].locked = true) : takeDsch n args s = refuse .bayLocked s := by
  simp only [takeDsch, given, Option.bind_some, bay?_val, line, locked, if_true]

variable (unlocked : s.lanes[b].locked = false)
include unlocked

theorem takeDsch_of_full (full : s.lanes[b].capacity ≤ s.lanes[b].lots.length) : takeDsch n args s = refuse .bayFull s := by
  simp only [takeDsch, given, Option.bind_some, bay?_val, line, unlocked, if_pos full, Bool.false_eq_true, if_false]

theorem takeDsch_of_room (room : s.lanes[b].lots.length < s.lanes[b].capacity) : takeDsch n args s
    = accept (.discharged serial b s.lanes[b].lots.length) (setLine n .idle (placeLot b serial s)) := by
  simp only [takeDsch, given, Option.bind_some, bay?_val, line, unlocked, if_neg (Nat.not_le.2 room), Bool.false_eq_true, if_false]

end

/-- Settles O19: the taking of DSCH, check by check, answered at once; past every check it is one record update. -/
theorem dschPlacesTheLot : Obligations.DschPlacesTheLot := by
  intro n args s atOnce fits
  rw [exec_dsch atOnce fits]
  refine ⟨fun empty => by rw [empty, takeDsch_of_empty]; rfl, fun bay given => ⟨fun noBay => ?_, ?_⟩⟩
  · rw [takeDsch_of_noBay s given noBay]
    rfl
  rintro b rfl
  refine ⟨fun line => ?_, fun serial line => ?_, fun serial remaining warning line =>
    ⟨fun locked => ?_, fun unlocked full => ?_, fun unlocked room => ?_⟩⟩
  · rw [takeDsch_of_idle given line]
    rfl
  · rw [takeDsch_of_void given line]
    rfl
  · rw [takeDsch_of_locked given line locked]
    rfl
  · rw [takeDsch_of_full given line unlocked full.ge]
    rfl
  · rw [takeDsch_of_room given line unlocked room]
    rfl

/-! ### ABDN and QLIN -/

section
variable {n : Line} {s : State}

theorem takeAbdn_of_idle (line : s.lines[n] = .idle) : takeAbdn n s = refuse .noDose s := by
  simp only [takeAbdn, line]

theorem takeAbdn_of_dosed {serial remaining warning : Nat} (line : s.lines[n] = .dosed serial remaining warning) :
    takeAbdn n s = accept (.abandoned serial .dosed) (setLine n .idle (freeLot serial s)) := by
  simp only [takeAbdn, line]

theorem takeAbdn_of_void {serial : Nat} (line : s.lines[n] = .void serial) :
    takeAbdn n s = accept (.abandoned serial .void) (setLine n .idle (freeLot serial s)) := by
  simp only [takeAbdn, line]

/-- QLIN answers the line's record and changes nothing (R64). -/
theorem takeQlin_of_line {r : LineRecord} (line : s.lines[n] = r) :
    takeQlin n s = accept (.line r.reported s.permits[n] s.haltRegistered r.serial r.reportedSeconds) s := by
  simp only [takeQlin, line]

end

/-- Settles O20: the takings of ABDN and QLIN, by the line's record, answered at once. -/
theorem abdnAndQlin : Obligations.AbdnAndQlin := by
  intro n args s atOnce fits
  rw [exec_abdn atOnce fits, exec_qlin atOnce fits]
  refine ⟨fun line => ?_, fun serial remaining warning line => ?_, fun serial line => ?_⟩
  · rw [takeAbdn_of_idle line, takeQlin_of_line line]
    exact ⟨rfl, rfl⟩
  · rw [takeAbdn_of_dosed line, takeQlin_of_line line]
    exact ⟨rfl, rfl⟩
  · rw [takeAbdn_of_void line, takeQlin_of_line line]
    exact ⟨rfl, rfl⟩

end Sys2Proof.Machine
end

section
/-! ## The plant-halt input (R66 to R68) -/

namespace Sys2Proof.Machine

open Sys2Proof

/-- In service the qualification timer times while the raw level differs from the registered one (R66). -/
theorem exec_phChange_of_inService {s : State} (serving : s.phase = .inService) (level : Bool) : exec (.phChange level) s
    = .next { s with phRaw := level, qualifying := if level = s.haltRegistered then false else true } := by
  by_cases same : level = s.haltRegistered <;> simp [exec, execPhChange, serving, same]

/-- Out of service a change of PH changes the raw level alone. -/
theorem exec_phChange_of_outOfService {s : State} (stopped : s.phase ≠ .inService) (level : Bool) :
    exec (.phChange level) s = .next { s with phRaw := level } := by
  simp only [exec, execPhChange, if_neg stopped]

/-- The event that registers a level (R67, R68). -/
def registration (level : Bool) : Instr := if level then .haltAssertionRegistered else .haltReleaseRegistered

/-- R67 and R68 in one: the level is registered and reported where the filter has qualified it. -/
theorem exec_registration (level : Bool) (s : State) : exec (registration level) s
    = .next (if s.registers level then reportCondition .haltActive level (registerHalt level s) else s) := by
  cases level <;> rfl

theorem State.registers_iff {s : State} {level : Bool} : s.registers level = true ↔
    s.phase = .inService ∧ s.qualifying = true ∧ s.phRaw = level ∧ s.haltRegistered = !level := by
  cases level <;> simp [State.registers, and_assoc]

/-- The permits of a registered assertion: all off (R67). -/
theorem registerHalt_true (s : State) :
    registerHalt true s = { s with haltRegistered := true, qualifying := false, permits := Vector.replicate 4 false } := by
  have off : (Vector.ofFn fun n : Line => permitLevel s.lines[n] true s.ready) = Vector.replicate 4 false := by
    ext i hi
    simp [permitLevel]
  simp only [registerHalt, off]

/-- The permits of a registered release: those of the DOSED lines, while READY is asserted (R68). -/
theorem registerHalt_false (s : State) : registerHalt false s = { s with
    haltRegistered := false, qualifying := false, permits := Vector.ofFn fun n => s.lines[n].isDosed && s.ready } := by
  simp only [registerHalt, permitLevel, Bool.not_false, Bool.and_true]

/-- Settles O21: both registrations are one, which acts exactly where the filter has qualified its level. -/
theorem haltInputFiltered : Obligations.HaltInputFiltered := by
  have asserted (s : State) := exec_registration true s
  have released (s : State) := exec_registration false s
  simp only [registration, if_true, Bool.false_eq_true, if_false] at asserted released
  refine ⟨fun s serving => ⟨exec_phChange_of_inService serving, fun timing raw level => ?_, fun timing raw level => ?_,
    fun idle => ?_, fun idle => ?_⟩, fun s stopped => ⟨exec_phChange_of_outOfService stopped, ?_, ?_⟩⟩
  · rw [asserted, if_pos (State.registers_iff.2 ⟨serving, timing, raw, level⟩), registerHalt_true]
  · rw [released, if_pos (State.registers_iff.2 ⟨serving, timing, raw, level⟩), registerHalt_false]
  · rw [asserted, if_neg (by simpa [State.registers_iff, serving, imp_iff_not_or] using idle)]
  · rw [released, if_neg (by simpa [State.registers_iff, serving, imp_iff_not_or] using idle)]
  · rw [asserted, if_neg (by simp [State.registers_iff, stopped])]
  · rw [released, if_neg (by simp [State.registers_iff, stopped])]

end Sys2Proof.Machine
end

section
/-! ## Kinds raised one after another (R157, R158)

A raise marks the notice slot of each station to which its kind is news. A second mark does nothing, so after any number of raises the
slots are marked of the stations to which some kind was news. -/

namespace Sys2Proof.Machine

open Sys2Proof

@[simp] theorem SlotState.mark_mark (x : SlotState) : x.mark.mark = x.mark := by cases x <;> rfl

theorem eq_noticeSlot_of_noticeStation? {i : SlotNo} {st : Station} (h : noticeStation? i = some st) : i = noticeSlot st := by
  revert h
  decide +revert

/-! ### One raise -/

section
variable (who : Station → Bool) (k : AttnKind) (s : State)

theorem raiseFor_has (st : Station) (j : AttnKind) :
    (raiseFor who k s).pendingKinds[st].has j = (s.pendingKinds[st].has j || (who st && decide (j = k))) := by
  rw [raiseFor_pendingKinds_get]
  split <;> simp_all

theorem raiseFor_slots_noticeSlot (st : Station) : (raiseFor who k s).slots[noticeSlot st]
    = if who st && newsFor s st k then s.slots[noticeSlot st].mark else s.slots[noticeSlot st] := by
  have carries := noticeStation?_noticeSlot st
  simp only [raiseFor, Fin.getElem_fin, Vector.getElem_ofFn] at carries ⊢
  rw [carries]

theorem raiseFor_slots_of_ne {i : SlotNo} (other : ∀ st : Station, i ≠ noticeSlot st) :
    (raiseFor who k s).slots[i] = s.slots[i] := by
  have carries : noticeStation? i = none :=
    Option.eq_none_iff_forall_ne_some.2 fun st carried => other st (eq_noticeSlot_of_noticeStation? carried)
  simp only [raiseFor, Fin.getElem_fin, Vector.getElem_ofFn] at carries ⊢
  rw [carries]

/-- The kinds of which a raise brings news: its own, for the stations to which it is news. -/
theorem raiseFor_newsSince (st : Station) : (raiseFor who k s).newsSince s st = (who st && newsFor s st k) := by
  have listed : k ∈ allKinds := by cases k <;> decide
  rw [Bool.eq_iff_iff]
  simp only [State.newsSince, List.any_eq_true, raiseFor_has, newsFor, Bool.and_eq_true, Bool.or_eq_true, Bool.not_eq_true',
    decide_eq_true_eq]
  constructor
  · rintro ⟨j, -, ⟨held | ⟨raised, rfl⟩, fresh⟩, unmasked⟩
    · exact absurd (held.symm.trans fresh) nofun
    · exact ⟨raised, fresh, unmasked⟩
  · rintro ⟨raised, fresh, unmasked⟩
    exact ⟨k, listed, ⟨.inr ⟨raised, rfl⟩, fresh⟩, unmasked⟩

theorem noticesFollow_raiseFor : NoticesFollow s (raiseFor who k s) where
  notices st := by rw [raiseFor_newsSince, raiseFor_slots_noticeSlot]
  otherSlots _ other := raiseFor_slots_of_ne who k s other

end

/-! ### Several -/

/-- Between s and t kinds were raised and none dropped, and the notices follow. -/
structure KindsRaised (s t : State) : Prop where
  grow : ∀ (st : Station) (k : AttnKind), s.pendingKinds[st].has k = true → t.pendingKinds[st].has k = true
  masks : t.masks = s.masks
  notices : NoticesFollow s t

theorem kindsRaised_raiseFor (who : Station → Bool) (k : AttnKind) (s : State) : KindsRaised s (raiseFor who k s) where
  grow st j held := by rw [raiseFor_has, held, Bool.true_or]
  masks := rfl
  notices := noticesFollow_raiseFor who k s

/-- A change that touches no pending set, mask or slot. -/
theorem KindsRaised.of_eq {s t : State} (kinds : t.pendingKinds = s.pendingKinds) (masks : t.masks = s.masks)
    (slots : t.slots = s.slots) : KindsRaised s t where
  grow st k held := kinds ▸ held
  masks := masks
  notices :=
    { notices := by simp [State.newsSince, kinds, slots]
      otherSlots := by simp [slots] }

/-- News since s is news up to u or news since u. -/
theorem KindsRaised.newsSince {s u t : State} (a : KindsRaised s u) (b : KindsRaised u t) (st : Station) :
    t.newsSince s st = (u.newsSince s st || t.newsSince u st) := by
  rw [Bool.eq_iff_iff]
  simp only [State.newsSince, List.any_eq_true, Bool.and_eq_true, Bool.or_eq_true, Bool.not_eq_true', a.masks]
  constructor
  · rintro ⟨k, listed, ⟨held, fresh⟩, unmasked⟩
    cases already : u.pendingKinds[st].has k
    · exact .inr ⟨k, listed, ⟨held, already⟩, unmasked⟩
    · exact .inl ⟨k, listed, ⟨already, fresh⟩, unmasked⟩
  · rintro (⟨k, listed, ⟨held, fresh⟩, unmasked⟩ | ⟨k, listed, ⟨held, fresh⟩, unmasked⟩)
    · exact ⟨k, listed, ⟨b.grow st k held, fresh⟩, unmasked⟩
    · exact ⟨k, listed, ⟨held, Bool.eq_false_iff.2 fun early => absurd ((a.grow st k early).symm.trans fresh) nofun⟩, unmasked⟩

theorem KindsRaised.trans {s u t : State} (a : KindsRaised s u) (b : KindsRaised u t) : KindsRaised s t where
  grow st k held := b.grow st k (a.grow st k held)
  masks := b.masks.trans a.masks
  notices :=
    { notices := fun st => by
        rw [a.newsSince b, b.notices.notices, a.notices.notices]
        cases u.newsSince s st <;> cases t.newsSince u st <;> simp
      otherSlots := fun i other => (b.notices.otherSlots i other).trans (a.notices.otherSlots i other) }

end Sys2Proof.Machine
end

section
/-! ## Expiries on their own rows (R57, R114) -/

namespace Sys2Proof.Machine

open Sys2Proof

/-! ### Pour windows -/

theorem windowEnds_eq (n : Line) (s : State) : windowEnds n s = s.lines[n].endsNext := by
  unfold windowEnds
  split <;> simp [*, LineRecord.endsNext]

/-- In service the row expires the window that is at its last second, and no other (R57). -/
theorem exec_pourWindowExpiry {s : State} (serving : s.phase = .inService) (n : Line) :
    exec (.pourWindowExpiry n) s = .next (if s.lines[n].endsNext = true then expireWindow n s else s) := by
  simp [exec, execPourWindowExpiry, serving, windowEnds_eq]

theorem expireWindow_of_dosed {s : State} {n : Line} {serial remaining warning : Nat}
    (line : s.lines[n] = .dosed serial remaining warning) : expireWindow n s = voidDose n serial s := by
  simp only [expireWindow, line]

/-! ### Claims that lapse -/

/-- t is s but for the claims, the queue, the lots, and the pending sets and slots of the reports. -/
def ClaimsChange (s t : State) : Prop :=
  t = { s with claims := t.claims, queue := t.queue, lots := t.lots, pendingKinds := t.pendingKinds, slots := t.slots }

theorem ClaimsChange.trans {s u t : State} (a : ClaimsChange s u) (b : ClaimsChange u t) : ClaimsChange s t := by
  unfold ClaimsChange at b
  rw [a] at b
  exact b

section
variable (s : State) (ended : List Claim)

theorem foldr_expireClaim_change : ClaimsChange s (ended.foldr expireClaim s) := by
  induction ended with
  | nil => rfl
  | cons c rest ih => exact ih.trans rfl

/-- The earliest of the lapsed claims ends at the queue's head (R114). -/
theorem foldr_expireClaim_queue : (ended.foldr expireClaim s).queue = ended.map (·.serial) ++ s.queue := by
  induction ended with
  | nil => rfl
  | cons c rest ih => simp [expireClaim, returnClaim_eq, ih]

theorem foldr_expireClaim_lots : (ended.foldr expireClaim s).lots
    = s.lots.map fun l => if l.serial ∈ ended.map (·.serial) then { l with state := .cured } else l := by
  induction ended with
  | nil => simp
  | cons c rest ih =>
    simp only [List.foldr_cons, expireClaim, raise_lots, returnClaim_eq, ih, List.map_map]
    refine List.map_congr_left fun l _ => ?_
    by_cases later : l.serial ∈ rest.map (·.serial)
    · simp only [Function.comp, later, if_true, List.map_cons, List.mem_cons, or_true, ite_self]
    · simp only [Function.comp, later, if_false, List.map_cons, List.mem_cons, or_false]

theorem foldr_expireClaim_has (st : Station) (k : AttnKind) : (ended.foldr expireClaim s).pendingKinds[st].has k
    = (s.pendingKinds[st].has k || decide (ended ≠ [] ∧ st = loadoutStation ∧ k = .claimExpired)) := by
  induction ended with
  | nil => simp
  | cons c rest ih =>
    rw [List.foldr_cons, expireClaim, raise, raiseFor_has]
    show ((rest.foldr expireClaim s).pendingKinds[st].has k || _) = _
    rw [ih]
    grind

theorem foldr_expireClaim_raised : KindsRaised s (ended.foldr expireClaim s) := by
  induction ended with
  | nil => exact .of_eq rfl rfl rfl
  | cons c rest ih =>
    have returned : KindsRaised (rest.foldr expireClaim s) (returnClaim c.serial (rest.foldr expireClaim s)) := .of_eq rfl rfl rfl
    exact (ih.trans returned).trans (kindsRaised_raiseFor _ _ _)

end

/-- The serials that the claims at their last second name. -/
theorem mem_serials_ended {claims : List Claim} {serial : Nat} :
    serial ∈ (claims.filter Claim.ends).map (·.serial) ↔ ∃ c ∈ claims, c.serial = serial ∧ c.remaining ≤ 1 := by
  simp only [List.mem_map, List.mem_filter, Claim.ends, decide_eq_true_eq]
  exact exists_congr fun c => by tauto

/-- Of claims with different serials, those that no lapsed claim's serial names are those with more than a second left. -/
theorem filter_running {claims : List Claim} (h : ClaimListLaw claims) :
    (claims.filter fun c => c.serial ∉ (claims.filter Claim.ends).map (·.serial)) = claims.filter (1 < ·.remaining) := by
  refine List.filter_congr fun c mem => decide_eq_decide.2 ?_
  rw [mem_serials_ended, ← Nat.not_le]
  refine not_congr ⟨?_, fun last => ⟨c, mem, rfl, last⟩⟩
  rintro ⟨d, hd, same, last⟩
  exact List.inj_on_of_nodup_map h.serials hd mem same ▸ last

/-! ### The expiries together -/

theorem expireClaims_queue (s : State) : (expireClaims s).queue = (s.claims.filter (·.remaining ≤ 1)).map (·.serial) ++ s.queue := by
  rw [expireClaims, reportQueue_queue, foldr_expireClaim_queue]
  rfl

section
variable {s : State} (h : ClaimLaw s)
include h

theorem expireClaims_claims : (expireClaims s).claims = s.claims.filter (1 < ·.remaining) := by
  rw [expireClaims, reportQueue_claims, foldr_expireClaim_claims, filter_running h.list]

theorem expireClaims_lots : (expireClaims s).lots = s.lots.map fun l =>
    if l.state = .claimed ∧ (∃ c ∈ s.claims, c.serial = l.serial ∧ c.remaining ≤ 1) then { l with state := .cured } else l := by
  rw [expireClaims, reportQueue_lots, foldr_expireClaim_lots]
  refine List.map_congr_left fun l live => if_congr ?_ rfl rfl
  rw [mem_serials_ended, ← h.exact l live]
  exact ⟨fun ⟨c, mem, named⟩ => ⟨named.1 ▸ List.mem_map_of_mem mem, c, mem, named⟩, And.right⟩

end

section
variable {s : State} (due : s.claims.filter Claim.ends ≠ [])
include due

/-- Lapsed claims leave a queue that is not empty, so that the report of the queue raises QUEUE_READY (R124). -/
theorem expireClaims_eq : expireClaims s
    = raiseFor (receives · .queueReady) .queueReady ((s.claims.filter Claim.ends).foldr expireClaim s) := by
  have holds : ((s.claims.filter Claim.ends).foldr expireClaim s).queueHolds = true := by
    obtain ⟨c, rest, ended⟩ := List.exists_cons_of_ne_nil due
    rw [State.queueHolds, foldr_expireClaim_queue, ended]
    rfl
  rw [expireClaims, reportQueue, reportCondition, holds, if_pos rfl]

theorem expireClaims_change : ClaimsChange s (expireClaims s) := by
  rw [expireClaims_eq due]
  exact (foldr_expireClaim_change s _).trans rfl

theorem expireClaims_raised : KindsRaised s (expireClaims s) := by
  rw [expireClaims_eq due]
  exact (foldr_expireClaim_raised s _).trans (kindsRaised_raiseFor _ _ _)

theorem expireClaims_has (st : Station) (k : AttnKind) : (expireClaims s).pendingKinds[st].has k
    = (s.pendingKinds[st].has k || decide (st = loadoutStation ∧ (k = .claimExpired ∨ k = .queueReady))) := by
  rw [expireClaims_eq due, raiseFor_has, foldr_expireClaim_has]
  simp only [receives, due, ne_eq, not_false_eq_true, true_and]
  grind

end

theorem exec_claimExpiry {s : State} (serving : s.phase = .inService) :
    exec .claimExpiry s = .next (if s.claims.any Claim.ends then expireClaims s else s) := by
  simp [exec, execClaimExpiry, serving]

/-- Settles O33: a window's expiry is one voided dose; the claims' expiries are taken one after another, and their claims, lots, queue
and reports are those of the whole. -/
theorem expiriesOnTheirOwn : Obligations.ExpiriesOnTheirOwn := by
  intro s serving
  refine ⟨fun n running => ?_, fun n serial remaining warning line last => ?_, fun running => ?_, fun hall ⟨c, mem, last⟩ => ?_⟩
  · rw [exec_pourWindowExpiry serving, if_neg (Bool.eq_false_iff.1 running)]
  · rw [exec_pourWindowExpiry serving, if_pos (by simp [line, LineRecord.endsNext, last]), expireWindow_of_dosed line, voidDose_eq]
  · rw [exec_claimExpiry serving, if_neg (by simpa [Claim.ends] using running)]
  · have law := (hallParts_iff.2 hall).claims
    have ends : c.ends = true := by simpa [Claim.ends] using last
    have due : s.claims.filter Claim.ends ≠ [] := List.ne_nil_of_mem (List.mem_filter.2 ⟨mem, ends⟩)
    refine ⟨expireClaims s, ?_, expireClaims_claims law, expireClaims_queue s, expireClaims_lots law, expireClaims_has due,
      (expireClaims_raised due).notices, expireClaims_change due⟩
    rw [exec_claimExpiry serving, if_pos (List.any_eq_true.2 ⟨c, mem, ends⟩)]

end Sys2Proof.Machine
end

section
/-! ## The lanes' commands: TMPR, LOCK, ULCK and the SPAR parameters of the hall (R48, R76 to R82, R85, R120) -/

namespace Sys2Proof.Machine

open Sys2Proof

/-! ### TMPR -/

/-- A TMPR that is taken at once is answered as the lane map's taking has it. -/
theorem exec_tmpr {s : State} (h : TakesAtOnce hallStation s) {args : List Byte} (fits : argsFit args = true) :
    exec (.tmpr 4 args) s = .next (placeAnswer 4 0x20 (takeTmpr args s)) :=
  congrArg Host.Outcome.next (arriveCommand_of_takesAtOnce (c := .tmpr) h fits rfl)

theorem firstReading?_of_short {args : List Byte} (short : args.length < 3) : firstReading? args = none := by
  unfold firstReading?
  split
  · simp only [List.length_cons] at short
    omega
  · rfl

theorem secondReading?_of_short {args : List Byte} (short : args.length < 6) : secondReading? args = none := by
  unfold secondReading?
  split
  · simp only [List.length_cons] at short
    exact firstReading?_of_short (by omega)
  · rfl

section
variable {t : Int}

theorem validTemperature_iff : validTemperature t = true ↔ -400 ≤ t ∧ t ≤ 900 := by simp [validTemperature]

theorem validTemperature_eq_false_iff : validTemperature t = false ↔ t < -400 ∨ 900 < t := by
  rw [Bool.eq_false_iff, ne_eq, validTemperature_iff]
  omega

/-- A reading is answered as discarded exactly when it is out of range (R80, R81). -/
theorem not_validTemperature (t : Int) : (!validTemperature t) = decide (t < -400 ∨ 900 < t) := by
  rw [Bool.eq_iff_iff, Bool.not_eq_true', validTemperature_eq_false_iff, decide_eq_true_iff]

variable (b : Bay) (s : State)

theorem takeReading_of_valid (low : -400 ≤ t) (high : t ≤ 900) :
    takeReading b t s = reportStale (setLane b (s.lanes[b].withReading t) s) := by
  rw [takeReading, if_pos (validTemperature_iff.2 ⟨low, high⟩)]

theorem takeReading_of_outside (outside : t < -400 ∨ 900 < t) :
    takeReading b t s = raiseFor (receives · .probeFault) .probeFault s := by
  rw [takeReading, if_neg (Bool.eq_false_iff.1 (validTemperature_eq_false_iff.2 outside))]

end

section
variable {args : List Byte} (s : State)

theorem takeTmpr_of_short (short : args.length < 3) : takeTmpr args s = refuse .badArgument s := by
  simp only [takeTmpr, firstReading?_of_short short]

theorem takeTmpr_of_noFirstBay {bay : Nat} {t : Int} (first : firstReading? args = some (bay, t)) (noBay : 15 < bay) :
    takeTmpr args s = refuse .badArgument s := by
  simp only [takeTmpr, first, bay?_eq_none_iff.2 noBay]

variable {b₁ : Bay} {t₁ : Int} (first : firstReading? args = some (b₁.val, t₁))
include first

theorem takeTmpr_of_one (short : args.length < 6) :
    takeTmpr args s = accept (.readings 1 (decide (t₁ < -400 ∨ 900 < t₁)) none) (takeReading b₁ t₁ s) := by
  simp only [takeTmpr, first, bay?_val, secondReading?_of_short short, not_validTemperature]

/-- Both bays are checked before the first reading is taken (R82). -/
theorem takeTmpr_of_noSecondBay {bay : Nat} {t : Int} (second : secondReading? args = some (bay, t)) (noBay : 15 < bay) :
    takeTmpr args s = refuse .badArgument s := by
  simp only [takeTmpr, first, bay?_val, second, bay?_eq_none_iff.2 noBay]

theorem takeTmpr_of_two {b₂ : Bay} {t₂ : Int} (second : secondReading? args = some (b₂.val, t₂)) :
    takeTmpr args s = accept (.readings 2 (decide (t₁ < -400 ∨ 900 < t₁)) (some (decide (t₂ < -400 ∨ 900 < t₂))))
      (takeReading b₂ t₂ (takeReading b₁ t₁ s)) := by
  simp only [takeTmpr, first, bay?_val, second, not_validTemperature]

end

/-- Settles O22: the taking of TMPR, check by check, answered at once, and the taking of one reading by its range. -/
theorem tmprTakesReadings : Obligations.TmprTakesReadings := by
  refine ⟨fun args s atOnce fits => ?_, fun b t s => ⟨takeReading_of_valid b s, takeReading_of_outside b s⟩⟩
  rw [exec_tmpr atOnce fits]
  refine ⟨fun short => ?_, fun bay₁ t₁ first => ⟨fun noBay => ?_, ?_⟩⟩
  · rw [takeTmpr_of_short s short]
    rfl
  · rw [takeTmpr_of_noFirstBay s first noBay]
    rfl
  rintro b₁ rfl
  refine ⟨fun short => ?_, fun bay₂ t₂ second => ⟨fun noBay => ?_, ?_⟩⟩
  · rw [takeTmpr_of_one s first short]
    rfl
  · rw [takeTmpr_of_noSecondBay s first second noBay]
    rfl
  · rintro b₂ rfl
    rw [takeTmpr_of_two s first second]
    rfl

/-! ### LOCK and ULCK -/

section
variable {s : State} (h : TakesAtOnce supervisorStation s) {args : List Byte} (fits : argsFit args = true)
include h fits

theorem exec_lock : exec (.lock 6 args) s = .next (placeAnswer 6 0x45 (takeLaneLock true args s)) :=
  congrArg Host.Outcome.next (supervisor_answered (c := .lock) h fits rfl rfl)

theorem exec_ulck : exec (.ulck 6 args) s = .next (placeAnswer 6 0x46 (takeLaneLock false args s)) :=
  congrArg Host.Outcome.next (supervisor_answered (c := .ulck) h fits rfl rfl)

end

section
variable (locked : Bool) {args : List Byte} (s : State)

theorem takeLaneLock_of_empty : takeLaneLock locked [] s = refuse .badArgument s := rfl

theorem takeLaneLock_of_noBay {bay : Nat} (given : oneByte? args = some bay) (noBay : 15 < bay) :
    takeLaneLock locked args s = refuse .badArgument s := by
  simp only [takeLaneLock, given, Option.bind_some, bay?_eq_none_iff.2 noBay]

theorem takeLaneLock_of_bay {b : Bay} (given : oneByte? args = some b.val) : takeLaneLock locked args s
    = accept (.laneLock b locked s.lanes[b].lots.length) (setLane b (s.lanes[b].withLock locked) s) := by
  simp only [takeLaneLock, given, Option.bind_some, bay?_val]

end

/-- Settles O23: LOCK and ULCK are one taking, answered at once. -/
theorem lockAndUlck : Obligations.LockAndUlck := by
  intro args s atOnce fits
  rw [exec_lock atOnce fits, exec_ulck atOnce fits]
  refine ⟨?_, fun bay given => ⟨fun noBay => ?_, ?_⟩⟩
  · rintro rfl
    rw [takeLaneLock_of_empty, takeLaneLock_of_empty]
    exact ⟨rfl, rfl⟩
  · rw [takeLaneLock_of_noBay _ s given noBay, takeLaneLock_of_noBay _ s given noBay]
    exact ⟨rfl, rfl⟩
  · rintro b rfl
    rw [takeLaneLock_of_bay _ s given, takeLaneLock_of_bay _ s given]
    exact ⟨rfl, rfl⟩

/-! ### SPAR of the stale limit, the claim timeout and a lane's capacity -/

section
variable {s : State} (h : TakesAtOnce supervisorStation s) {i hi lo : Byte} {rest : List Byte}
  (fits : parameterArgsFit (i :: hi :: lo :: rest) = true)
include h fits

theorem exec_staleLimit : exec (.staleLimit 6 (i :: hi :: lo :: rest)) s
    = .next (placeAnswer 6 0x4D (takeStaleLimit i.toNat (beNat [hi, lo]) s)) :=
  congrArg Host.Outcome.next (arriveParameter_of_takesAtOnce (p := 3) h fits)

theorem exec_bayCapacity : exec (.bayCapacity 6 (i :: hi :: lo :: rest)) s
    = .next (placeAnswer 6 0x4D (takeBayCapacity i.toNat (beNat [hi, lo]) s)) :=
  congrArg Host.Outcome.next (arriveParameter_of_takesAtOnce (p := 4) h fits)

theorem exec_claimTimeout : exec (.claimTimeout 6 (i :: hi :: lo :: rest)) s
    = .next (placeAnswer 6 0x4D (takeClaimTimeout i.toNat (beNat [hi, lo]) s)) :=
  congrArg Host.Outcome.next (arriveParameter_of_takesAtOnce (p := 5) h fits)

end

/-- The taking of SPAR for a parameter of the whole hall, at index 0, given its range and the state that it leaves (R48). -/
def takeHallParameter (parameter low high : Nat) (put : Nat → State → State) (index value : Nat) (s : State) : Taken :=
  if index = 0 ∧ low ≤ value ∧ value ≤ high then acceptParameter parameter 0 value (put value s) else refuse .badArgument s

theorem takeStaleLimit_eq : takeStaleLimit = takeHallParameter 3 1 60 fun v s => { s with staleLimit := v } := by
  funext index value s
  simp only [takeStaleLimit, takeHallParameter]
  grind [acceptParameter, accept]

theorem takeClaimTimeout_eq : takeClaimTimeout = takeHallParameter 5 120 3600 fun v s => { s with claimTimeout := v } := by
  funext index value s
  simp only [takeClaimTimeout, takeHallParameter]
  grind [acceptParameter, accept]

section
variable {parameter low high : Nat} {put : Nat → State → State} {index value : Nat} (s : State)

theorem takeHallParameter_of_outside (outside : index ≠ 0 ∨ value < low ∨ high < value) :
    takeHallParameter parameter low high put index value s = refuse .badArgument s :=
  if_neg (by omega)

theorem takeHallParameter_of_inside (zero : index = 0) (above : low ≤ value) (below : value ≤ high) :
    takeHallParameter parameter low high put index value s = acceptParameter parameter 0 value (put value s) :=
  if_pos ⟨zero, above, below⟩

end

section
variable {value : Nat} {s : State}

/-- SPAR of the capacity of a lane that exists: the value's range first, then the lane's lots (R77). -/
theorem takeBayCapacity_of_bay (b : Bay) : takeBayCapacity b.val value s
    = if value < 1 ∨ 6 < value then refuse .badArgument s
      else if s.lanes[b].lots ≠ [] then refuse .bayNotEmpty s
      else acceptParameter 4 b.val value (setLane b { s.lanes[b] with capacity := value } s) := by
  simp only [takeBayCapacity, bay?_val, Bool.or_eq_true, decide_eq_true_eq, acceptParameter, accept]

theorem takeBayCapacity_of_outside {index : Nat} (outside : 15 < index ∨ value < 1 ∨ 6 < value) :
    takeBayCapacity index value s = refuse .badArgument s := by
  by_cases noBay : 15 < index
  · simp only [takeBayCapacity, bay?_eq_none_iff.2 noBay]
  · exact (takeBayCapacity_of_bay ⟨index, by omega⟩).trans (if_pos (outside.resolve_left noBay))

variable {b : Bay} (above : 1 ≤ value) (below : value ≤ 6)
include above below

theorem takeBayCapacity_of_lots (lots : s.lanes[b].lots ≠ []) : takeBayCapacity b.val value s = refuse .bayNotEmpty s := by
  rw [takeBayCapacity_of_bay, if_neg (by omega), if_pos lots]

theorem takeBayCapacity_of_empty (empty : s.lanes[b].lots = []) : takeBayCapacity b.val value s
    = acceptParameter 4 b.val value (setLane b { s.lanes[b] with capacity := value } s) := by
  rw [takeBayCapacity_of_bay, if_neg (by omega), if_neg (not_not.2 empty)]

end

/-- Settles O24: the two parameters of the whole hall as one taking, the capacity check by check, answered at once. -/
theorem sparSetsHallParameters : Obligations.SparSetsHallParameters := by
  rintro i hi lo rest v s atOnce fits rfl
  rw [exec_staleLimit atOnce fits, exec_claimTimeout atOnce fits, exec_bayCapacity atOnce fits, takeStaleLimit_eq,
    takeClaimTimeout_eq]
  refine ⟨fun outside => ?_, fun zero above below => ?_, fun outside => ?_, fun zero above below => ?_, fun outside => ?_,
    fun b known above below => ⟨fun lots => ?_, fun empty => ?_⟩⟩
  · rw [takeHallParameter_of_outside s outside]
    rfl
  · rw [takeHallParameter_of_inside s zero above below]
    rfl
  · rw [takeHallParameter_of_outside s outside]
    rfl
  · rw [takeHallParameter_of_inside s zero above below]
    rfl
  · rw [takeBayCapacity_of_outside outside]
    rfl
  · rw [← known, takeBayCapacity_of_lots above below lots]
    rfl
  · rw [← known, takeBayCapacity_of_empty above below empty]
    rfl

end Sys2Proof.Machine
end

section
/-! ## STIM (R93) -/

namespace Sys2Proof.Machine

open Sys2Proof

theorem exec_stim {s : State} (h : TakesAtOnce supervisorStation s) {args : List Byte} (fits : argsFit args = true) :
    exec (.stim 6 args) s = .next (placeAnswer 6 0x4C (takeStim args s)) :=
  congrArg Host.Outcome.next (supervisor_answered (c := .stim) h fits rfl rfl)

theorem minute?_of_short {args : List Byte} (short : args.length < 4) : minute? args = none := by
  unfold minute?
  split
  · simp only [List.length_cons] at short
    omega
  · rfl

/-- The time-valid state is set before it is reported, so that the report ends TIME_UNSET (R92, R93). -/
theorem takeStim_of_minute {args : List Byte} {minute : Nat} (s : State) (given : minute? args = some minute) : takeStim args s
    = accept (.plantMinute minute) (reportCondition .timeUnset false
        { s with plantMinute := minute, timeValid := true, divider := 0, secondInMinute := 0, intervalTaken := false }) := by
  simp only [takeStim, given]
  rfl

/-- Settles O25: STIM is one taking, answered at once. -/
theorem stimSetsTheMinute : Obligations.StimSetsTheMinute := by
  intro args s atOnce fits
  rw [exec_stim atOnce fits]
  refine ⟨fun short => ?_, fun minute given => ?_⟩
  · simp only [takeStim, minute?_of_short short]
    rfl
  · rw [takeStim_of_minute s given]
    rfl

end Sys2Proof.Machine
end

section
/-! ## The pour windows at a second event (R56, R57)

The timers run one line after another. What they do is said of any list of lines, so that the runs of two lists follow one
another. -/

namespace Sys2Proof.Machine

open Sys2Proof

/-- The kinds that a line's timer raises for the line's mixer at the next second event (R56, R57). -/
def LineRecord.raises (r : LineRecord) : AttnKind → Bool
  | .pourLate => r.warnsNext
  | .doseVoid => r.endsNext
  | _ => false

/-- A lot after the second event of its line's timer (R57). -/
def Lot.windowLater (r : LineRecord) (l : Lot) : Lot := if l.state = .dosed ∧ r.endsNext = true then l.withState .void else l

@[simp] theorem Lot.windowLater_line (r : LineRecord) (l : Lot) : (l.windowLater r).line = l.line := by
  unfold Lot.windowLater
  split <;> rfl

/-- t is s after the timers of the lines of ran have taken a second event. -/
structure WindowsRun (ran : List Line) (s t : State) : Prop where
  lines : ∀ n : Line, t.lines[n] = if n ∈ ran then s.lines[n].secondLater else s.lines[n]
  lots : t.lots = s.lots.map fun l => if l.line ∈ ran then l.windowLater s.lines[l.line] else l
  permits : ∀ n : Line, t.permits[n] = if n ∈ ran then s.permits[n] && !s.lines[n].endsNext else s.permits[n]
  kinds : ∀ (st : Station) (k : AttnKind), t.pendingKinds[st].has k
    = (s.pendingKinds[st].has k || decide (∃ n ∈ ran, st = mixerStation n ∧ s.lines[n].raises k = true))
  raised : KindsRaised s t
  others : t = { s with
    lines := t.lines, lots := t.lots, permits := t.permits, pendingKinds := t.pendingKinds, slots := t.slots }

/-- The timers of different lines run apart. -/
theorem WindowsRun.trans {ran more : List Line} {s u t : State} (a : WindowsRun ran s u) (b : WindowsRun more u t)
    (apart : ∀ n ∈ more, n ∉ ran) : WindowsRun (ran ++ more) s t := by
  have untouched (n : Line) (later : n ∈ more) : u.lines[n] = s.lines[n] := by rw [a.lines, if_neg (apart n later)]
  exact
    { lines := fun n => by
        rw [b.lines, a.lines]
        by_cases later : n ∈ more
        · simp [later, apart n later]
        · simp [later]
      lots := by
        rw [b.lots, a.lots, List.map_map]
        refine List.map_congr_left fun l _ => ?_
        by_cases later : l.line ∈ more
        · simpa [later, apart _ later] using congrArg (Lot.windowLater · l) (untouched _ later)
        · by_cases earlier : l.line ∈ ran <;> simp [later, earlier]
      permits := fun n => by
        rw [b.permits, a.permits]
        by_cases later : n ∈ more
        · simp [later, apart n later, untouched n later]
        · simp [later]
      kinds := fun st k => by
        rw [b.kinds, a.kinds, Bool.or_assoc, ← Bool.decide_or]
        congr 2
        rw [eq_iff_iff]
        simp only [List.mem_append, or_and_right, exists_or]
        refine or_congr_right (exists_congr fun n => and_congr_right fun later => ?_)
        rw [untouched n later]
      raised := a.raised.trans b.raised
      others := by
        rw [b.others, a.others] }

/-! ### What raises a kind and what leaves the reports -/

theorem raise_has (receiver : Station) (k : AttnKind) (s : State) (st : Station) (j : AttnKind) :
    (raise receiver k s).pendingKinds[st].has j = (s.pendingKinds[st].has j || (decide (st = receiver) && decide (j = k))) :=
  raiseFor_has _ k s st j

theorem KindsRaised.raise {s t : State} (h : KindsRaised s t) (receiver : Station) (k : AttnKind) :
    KindsRaised s (raise receiver k t) :=
  h.trans (kindsRaised_raiseFor _ k t)

theorem kindsRaised_setLine (n : Line) (r : LineRecord) (s : State) : KindsRaised s (setLine n r s) := .of_eq rfl rfl rfl

theorem kindsRaised_changeLot (serial : Nat) (f : Lot → Lot) (s : State) : KindsRaised s (changeLot serial f s) :=
  .of_eq rfl rfl rfl

theorem kindsRaised_removeClaim (serial : Nat) (s : State) : KindsRaised s (removeClaim serial s) := .of_eq rfl rfl rfl

/-! ### One line -/

theorem Lot.windowLater_of_lasting {r : LineRecord} (lasting : r.endsNext = false) (l : Lot) : l.windowLater r = l := by
  simp [Lot.windowLater, lasting]

/-- A line without a running timer. -/
theorem LineRecord.of_stopped {r : LineRecord} (stopped : r.isDosed = false) :
    r.secondLater = r ∧ r.endsNext = false ∧ r.warnsNext = false := by
  revert stopped
  cases r <;> simp [LineRecord.isDosed, LineRecord.secondLater, LineRecord.endsNext, LineRecord.warnsNext]

theorem LineRecord.raises_eq (r : LineRecord) (k : AttnKind) :
    r.raises k = (decide (k = .pourLate) && r.warnsNext || decide (k = .doseVoid) && r.endsNext) := by
  cases k <;> simp [LineRecord.raises]

theorem runWindow_of_stopped {s : State} {n : Line} (stopped : s.lines[n].isDosed = false) : runWindow n s = s := by
  fun_cases runWindow n s <;> simp_all [LineRecord.isDosed]

section
variable {s : State} {n : Line} {serial remaining warning : Nat} (record : s.lines[n] = .dosed serial remaining warning)
include record

theorem runWindow_of_last (last : remaining ≤ 1) : runWindow n s = voidDose n serial s := by
  simp only [runWindow, record, if_pos last, expireWindow_of_dosed record]

theorem runWindow_of_warning (more : 1 < remaining) (warns : remaining - 1 = warning) : runWindow n s
    = raise (mixerStation n) .pourLate (setLine n (.dosed serial (remaining - 1) warning) s) := by
  simp only [runWindow, record, if_neg (Nat.not_le.2 more), if_pos warns]

theorem runWindow_of_quiet (more : 1 < remaining) (quiet : remaining - 1 ≠ warning) :
    runWindow n s = setLine n (.dosed serial (remaining - 1) warning) s := by
  simp only [runWindow, record, if_neg (Nat.not_le.2 more), if_neg quiet]

end

/-- A window that counts down keeps its permit, and one that ends loses it (R57, R65). -/
theorem PermitLaw.secondLater {s : State} (h : PermitLaw s) {n : Line} (dosed : s.lines[n].isDosed = true) :
    permitLevel s.lines[n].secondLater s.haltRegistered s.ready = (s.permits[n] && !s.lines[n].endsNext) := by
  rw [h n]
  generalize s.lines[n] = r at dosed
  cases r with
  | dosed serial remaining warning =>
    by_cases last : remaining ≤ 1 <;> simp [LineRecord.secondLater, LineRecord.endsNext, permitLevel, LineRecord.isDosed, last]
  | idle | void serial => exact absurd dosed nofun

/-- A line without a running timer takes no part. -/
theorem WindowsRun.of_stopped {s : State} {n : Line} (stopped : s.lines[n].isDosed = false) : WindowsRun [n] s s := by
  obtain ⟨later, lasting, quiet⟩ := LineRecord.of_stopped stopped
  exact
    { lines := fun m => by
        by_cases self : m = n
        · rw [if_pos (List.mem_singleton.2 self), self, later]
        · rw [if_neg (mt List.mem_singleton.1 self)]
      lots := by
        refine (List.map_id'' (fun l => ?_) _).symm
        by_cases self : l.line = n
        · subst self
          rw [if_pos List.mem_cons_self, Lot.windowLater_of_lasting lasting]
        · rw [if_neg (mt List.mem_singleton.1 self)]
      permits := fun m => by
        by_cases self : m = n
        · rw [if_pos (List.mem_singleton.2 self), self, lasting, Bool.not_false, Bool.and_true]
        · rw [if_neg (mt List.mem_singleton.1 self)]
      kinds := fun st k => by simp [-Fin.getElem_fin, LineRecord.raises_eq, lasting, quiet]
      raised := .of_eq rfl rfl rfl
      others := rfl }

section
variable {s t : State} {n : Line}

/-- A running timer sets its line's record, and its permit with it (R53). -/
theorem WindowsRun.of_set (h : PermitLaw s) (dosed : s.lines[n].isDosed = true)
    (set : t = { setLine n s.lines[n].secondLater s with lots := t.lots, pendingKinds := t.pendingKinds, slots := t.slots })
    (lots : t.lots = s.lots.map fun l => if l.line = n then l.windowLater s.lines[n] else l)
    (kinds : ∀ (st : Station) (k : AttnKind), t.pendingKinds[st].has k
      = (s.pendingKinds[st].has k || (decide (st = mixerStation n) && s.lines[n].raises k)))
    (raised : KindsRaised s t) : WindowsRun [n] s t where
  lines m := by
    rw [set]
    refine (setLine_lines_get s n m _).trans ?_
    by_cases self : m = n
    · rw [if_pos self, if_pos (List.mem_singleton.2 self), self]
    · rw [if_neg self, if_neg (mt List.mem_singleton.1 self)]
  lots := by
    rw [lots]
    refine List.map_congr_left fun l _ => ?_
    by_cases self : l.line = n
    · subst self
      rw [if_pos rfl, if_pos List.mem_cons_self]
    · rw [if_neg self, if_neg (mt List.mem_singleton.1 self)]
  permits m := by
    rw [set]
    refine (setLine_permits_get s n m _).trans ?_
    by_cases self : m = n
    · rw [if_pos self, if_pos (List.mem_singleton.2 self), self, h.secondLater dosed]
    · rw [if_neg self, if_neg (mt List.mem_singleton.1 self)]
  kinds st k := by simp [-Fin.getElem_fin, kinds]
  raised := raised
  others := by
    rw [set]
    rfl

/-- A window that counts down, with POUR_LATE or without (R56). -/
theorem WindowsRun.of_counted (h : PermitLaw s) (dosed : s.lines[n].isDosed = true) (lasting : s.lines[n].endsNext = false)
    (set : t = { setLine n s.lines[n].secondLater s with pendingKinds := t.pendingKinds, slots := t.slots })
    (kinds : ∀ (st : Station) (k : AttnKind), t.pendingKinds[st].has k
      = (s.pendingKinds[st].has k || (decide (st = mixerStation n) && s.lines[n].raises k)))
    (raised : KindsRaised s t) : WindowsRun [n] s t := by
  refine .of_set h dosed ?_ ?_ kinds raised
  · rw [set]
  · rw [set]
    simp [-Fin.getElem_fin, Lot.windowLater_of_lasting lasting]

end

section
variable {s : State} {n : Line} {serial remaining warning : Nat} (record : s.lines[n] = .dosed serial remaining warning)
include record

/-- The one lot of the line's dose, by its serial (R4, R54). -/
theorem HallParts.serial_eq_iff (hall : HallParts s) {l : Lot} (mem : l ∈ s.lots) :
    l.serial = serial ↔ l.line = n ∧ l.state = .dosed := by
  obtain ⟨-, k, live, rfl, state, rfl⟩ := hall.lines.exists_of_dosed record
  constructor
  · intro same
    rw [hall.serials.eq_of_serial_eq mem live same]
    exact ⟨rfl, state⟩
  · rintro ⟨line, dosed⟩
    exact hall.lines.serial_unique mem live (by simp [dosed, LotState.inLane]) (by simp [state, LotState.inLane]) line

/-- A window at its last second: its one DOSED lot and its line become VOID, and DOSE_VOID is raised (R57). -/
theorem runWindow_run_of_last (hall : HallParts s) (h : PermitLaw s) (last : remaining ≤ 1) :
    WindowsRun [n] s (runWindow n s) := by
  have ends : s.lines[n].endsNext = true := by simp [-Fin.getElem_fin, record, LineRecord.endsNext, last]
  have quiet : s.lines[n].warnsNext = false := by
    simp only [record, LineRecord.warnsNext, Bool.and_eq_false_iff, decide_eq_false_iff_not]
    omega
  rw [runWindow_of_last record last, voidDose]
  refine .of_set h (by rw [record]; rfl) ?_ (List.map_congr_left fun l live => ?_) (fun st k => ?_) ?_
  · simp only [LineRecord.secondLater, record, if_pos last]
    rfl
  · simp only [Lot.windowLater, hall.serial_eq_iff record live, ends, and_true, ite_and]
  · rw [raise_has]
    simp [-Fin.getElem_fin, LineRecord.raises_eq, ends, quiet]
  · exact ((kindsRaised_changeLot _ _ s).trans (kindsRaised_setLine _ _ _)).raise _ _

/-- A window with more than a second left counts down, and POUR_LATE is raised at its warning point (R56). -/
theorem runWindow_run_of_more (h : PermitLaw s) (more : 1 < remaining) : WindowsRun [n] s (runWindow n s) := by
  have dosed : s.lines[n].isDosed = true := by rw [record]; rfl
  have lasting : s.lines[n].endsNext = false := by simpa only [record, LineRecord.endsNext, decide_eq_false_iff_not, not_le]
  have later : s.lines[n].secondLater = .dosed serial (remaining - 1) warning := by
    simp only [record, LineRecord.secondLater, if_neg (Nat.not_le.2 more)]
  have warns : s.lines[n].warnsNext = decide (remaining - 1 = warning) := by
    rw [Bool.eq_iff_iff]
    simp only [record, LineRecord.warnsNext, Bool.and_eq_true, decide_eq_true_eq]
    omega
  by_cases due : remaining - 1 = warning
  · rw [runWindow_of_warning record more due]
    refine .of_counted h dosed lasting ?_ (fun st k => ?_) ?_
    · rw [later]
      rfl
    · rw [raise_has]
      simp [-Fin.getElem_fin, LineRecord.raises_eq, lasting, warns, due]
    · exact (kindsRaised_setLine _ _ s).raise _ _
  · rw [runWindow_of_quiet record more due]
    refine .of_counted h dosed lasting ?_ (fun st k => ?_) (.of_eq rfl rfl rfl)
    · rw [later]
    · simp [-Fin.getElem_fin, LineRecord.raises_eq, lasting, warns, due]

end

/-- A second event on one line's timer. -/
theorem runWindow_run {s : State} (hall : HallParts s) (h : PermitLaw s) (n : Line) : WindowsRun [n] s (runWindow n s) := by
  cases record : s.lines[n] with
  | idle | void =>
    have stopped : s.lines[n].isDosed = false := by rw [record]; rfl
    exact (runWindow_of_stopped stopped).symm ▸ .of_stopped stopped
  | dosed serial remaining warning =>
    by_cases last : remaining ≤ 1
    · exact runWindow_run_of_last record hall h last
    · exact runWindow_run_of_more record h (Nat.not_le.1 last)

/-! ### The four lines -/

theorem mem_lines (n : Line) : n ∈ ([0, 1, 2, 3] : List Line) := by decide +revert

/-- R56: a second event on every line's timer. -/
theorem runWindows_run {s : State} (hall : HallParts s) (h : PermitLaw s) : WindowsRun [0, 1, 2, 3] s (runWindows s) := by
  have kept {t : State} (laws : HallParts t ∧ PermitLaw t) (n : Line) :
      HallParts (runWindow n t) ∧ PermitLaw (runWindow n t) := ⟨(runWindow_ages n t laws.1).1, runWindow_permits laws.2 n⟩
  have next {ran : List Line} {t : State} (a : WindowsRun ran s t) (laws : HallParts t ∧ PermitLaw t) (n : Line)
      (apart : n ∉ ran) : WindowsRun (ran ++ [n]) s (runWindow n t) :=
    a.trans (runWindow_run laws.1 laws.2 n) fun m self => List.mem_singleton.1 self ▸ apart
  have laws₁ := kept ⟨hall, h⟩ 0
  have laws₂ := kept laws₁ 1
  have laws₃ := kept laws₂ 2
  exact next (next (next (runWindow_run hall h 0) laws₁ 1 (by decide)) laws₂ 2 (by decide)) laws₃ 3 (by decide)

end Sys2Proof.Machine
end

section
/-! ## The second event (R56, R57, R88, R114) -/

namespace Sys2Proof.Machine

open Sys2Proof

/-! ### The claim timers -/

/-- A lot after the second event of its claim (R114). -/
def Lot.claimLater (claims : List Claim) (l : Lot) : Lot :=
  if l.state = .claimed ∧ ∃ c ∈ claims, c.serial = l.serial ∧ c.remaining ≤ 1 then { l with state := .cured } else l

theorem any_claim_ends {s : State} : s.claims.any Claim.ends = true ↔ s.claims.filter Claim.ends ≠ [] := by
  simp [List.filter_eq_nil_iff]

/-- No claim is at its last second: the timers of the dispatch unit run down alone. -/
theorem runClaims_of_running {s : State} (running : s.claims.filter Claim.ends = []) : runClaims s = countClaims s := by
  rw [runClaims, if_neg (by simpa using List.filter_eq_nil_iff.1 running)]

theorem runClaims_of_due {s : State} (due : s.claims.filter Claim.ends ≠ []) : runClaims s = countClaims (expireClaims s) := by
  rw [runClaims, if_pos (any_claim_ends.2 due)]

/-- t is s after the claim timers have taken a second event (R114, R124). -/
structure ClaimsRun (s t : State) : Prop where
  claims : t.claims = (s.claims.filter (1 < ·.remaining)).map fun c => { c with remaining := c.remaining - 1 }
  queue : t.queue = (s.claims.filter (·.remaining ≤ 1)).map (·.serial) ++ s.queue
  lots : t.lots = s.lots.map (Lot.claimLater s.claims)
  kinds : ∀ (st : Station) (k : AttnKind), t.pendingKinds[st].has k = (s.pendingKinds[st].has k
    || (decide (st = loadoutStation ∧ (k = .claimExpired ∨ k = .queueReady)) && s.claims.any (·.remaining ≤ 1)))
  raised : KindsRaised s t
  change : ClaimsChange s t

/-- R114: a second event on every claim's timer, whether one is at its last second or none is. -/
theorem runClaims_run {s : State} (h : ClaimLaw s) : ClaimsRun s (runClaims s) := by
  by_cases due : s.claims.filter Claim.ends = []
  · have running : ∀ c ∈ s.claims, ¬ c.remaining ≤ 1 := by simpa [Claim.ends] using due
    rw [runClaims_of_running due]
    exact
      { claims := by
          rw [List.filter_eq_self.2 fun c mem => by simpa using running c mem]
          rfl
        queue := by
          rw [List.filter_eq_nil_iff.2 fun c mem => by simpa using running c mem]
          rfl
        lots := by
          refine (List.map_id'' (fun l => if_neg ?_) _).symm
          rintro ⟨-, c, mem, -, last⟩
          exact running c mem last
        kinds := fun st k => by
          have quiet : s.claims.any (·.remaining ≤ 1) = false := by simpa using running
          rw [quiet, Bool.and_false, Bool.or_false]
          rfl
        raised := .of_eq rfl rfl rfl
        change := rfl }
  · rw [runClaims_of_due due]
    have counted : KindsRaised (expireClaims s) (countClaims (expireClaims s)) := .of_eq rfl rfl rfl
    exact
      { claims := by
          rw [← expireClaims_claims h]
          rfl
        queue := expireClaims_queue s
        lots := expireClaims_lots h
        kinds := fun st k => by
          have ends : s.claims.any (·.remaining ≤ 1) = true := any_claim_ends.2 due
          rw [ends, Bool.and_true]
          exact expireClaims_has due st k
        raised := (expireClaims_raised due).trans counted
        change := (expireClaims_change due).trans rfl }

/-! ### The timers together -/

theorem Lot.withState_self {l : Lot} {a : LotState} (h : l.state = a) : l.withState a = l := by
  subst h
  rfl

/-- A lot's window and its claim: no lot has both. -/
theorem Lot.claimLater_windowLater (s : State) (l : Lot) :
    (l.windowLater s.lines[l.line]).claimLater s.claims = l.secondLater s := by
  have later : l.secondLater s = l.withState (l.secondLater s).state := rfl
  rw [later]
  cases state : l.state with
  | dosed =>
    by_cases ends : s.lines[l.line].endsNext = true
    · simp [-Fin.getElem_fin, Lot.secondLater, Lot.windowLater, Lot.claimLater, state, ends]
    · simp [-Fin.getElem_fin, Lot.secondLater, Lot.windowLater, Lot.claimLater, state, ends, Lot.withState_self state]
  | claimed =>
    have unchanged : l.windowLater s.lines[l.line] = l := by simp [Lot.windowLater, state]
    rw [unchanged]
    by_cases lapses : ∃ c ∈ s.claims, c.serial = l.serial ∧ c.remaining ≤ 1
    · rw [Lot.claimLater, if_pos ⟨state, lapses⟩]
      simpa [Lot.secondLater, state, Lot.withState] using lapses
    · rw [Lot.claimLater, if_neg fun both => lapses both.2]
      have kept : (l.secondLater s).state = .claimed := by simpa [Lot.secondLater, state] using lapses
      rw [kept, Lot.withState_self state]
  | void | curing | overdue | cured | rejected =>
    simp [-Fin.getElem_fin, Lot.secondLater, Lot.windowLater, Lot.claimLater, state, Lot.withState_self state]

theorem mixerStation_eq_iff {st : Station} {n : Line} : st = mixerStation n ↔ st.val < 4 ∧ lineOf st = n := by
  simp only [lineOf, Fin.ext_iff]
  omega

/-- The kinds of a second event: of the mixer's line, and for loadout of the claims. -/
theorem State.raisedBySecond_eq (s : State) (st : Station) (k : AttnKind) : s.raisedBySecond st k
    = (decide (∃ n ∈ ([0, 1, 2, 3] : List Line), st = mixerStation n ∧ s.lines[n].raises k = true)
      || (decide (st = loadoutStation ∧ (k = .claimExpired ∨ k = .queueReady)) && s.claims.any (·.remaining ≤ 1))) := by
  rw [Bool.eq_iff_iff]
  simp only [mem_lines, mixerStation_eq_iff, true_and, and_assoc, exists_and_left, exists_eq_left', Bool.or_eq_true,
    decide_eq_true_eq]
  cases k <;> simp [-Fin.getElem_fin, State.raisedBySecond, LineRecord.raises, receives]

/-- The windows' timers run, then the claims'. -/
theorem timersRun {s u t : State} (a : WindowsRun [0, 1, 2, 3] (countSecond s) u) (b : ClaimsRun u t) :
    TimersRun s { t with secondInMinute := s.secondInMinute } := by
  have claims : u.claims = s.claims := by rw [a.others]; rfl
  have queue : u.queue = s.queue := by rw [a.others]; rfl
  have raised := a.raised.trans b.raised
  exact
    { lines := fun n => by
        show t.lines[n] = _
        have same : t.lines = u.lines := by rw [b.change]
        simp only [same]
        rw [a.lines, if_pos (mem_lines n)]
        rfl
      lots := by
        show t.lots = _
        rw [b.lots, a.lots, List.map_map, claims]
        refine List.map_congr_left fun l _ => ?_
        rw [Function.comp, if_pos (mem_lines _)]
        exact l.claimLater_windowLater s
      claims := by
        show t.claims = _
        rw [b.claims, claims]
      queue := by
        show t.queue = _
        rw [b.queue, claims, queue]
      permits := fun n => by
        show t.permits[n] = _
        have same : t.permits = u.permits := by rw [b.change]
        simp only [same]
        rw [a.permits, if_pos (mem_lines n)]
        rfl
      kinds := fun st k => by
        show t.pendingKinds[st].has k = _
        rw [b.kinds, a.kinds, claims, s.raisedBySecond_eq, Bool.or_assoc]
        rfl
      notices := ⟨raised.notices.notices, raised.notices.otherSlots⟩
      others := by
        rw [b.change, a.others]
        rfl }

section
variable {s : State} (range : s.secondInMinute ≤ 59)
include range

theorem sixtiethNext_iff : s.sixtiethNext = true ↔ s.secondInMinute = 59 := by
  simp only [State.sixtiethNext, decide_eq_true_eq]
  omega

theorem countSecond_secondInMinute : (countSecond s).secondInMinute = if s.secondInMinute = 59 then 0 else s.secondInMinute + 1 :=
  if_congr (sixtiethNext_iff range) rfl rfl

theorem takeSecond_of_range : takeSecond s = if s.secondInMinute = 59 ∧ s.intervalTaken = false
      then takeInterval (runClaims (runWindows (countSecond s))) else runClaims (runWindows (countSecond s)) := by
  refine if_congr ?_ rfl rfl
  rw [Bool.and_eq_true, Bool.not_eq_true', sixtiethNext_iff range]

end

/-- Settles O26: the timers of the windows and of the claims one after another, each keeping the laws of the hall. -/
theorem secondEventRunsTimers : Obligations.SecondEventRunsTimers := by
  intro s hall permits serving range
  have law : HallParts (countSecond s) := SameHall.hallParts {} (hallParts_iff.2 hall)
  have windows := runWindows_run law (s := countSecond s) permits
  have law_u := (runWindows_ages _ law).1
  have claims := runClaims_run law_u.claims
  refine ⟨_, timersRun windows claims, hallParts_iff.1 (runClaims_ages _ law_u).1, ?_, ?_⟩
  · rw [claims.change, windows.others]
    exact countSecond_secondInMinute range
  · rw [exec, execSecondEvent, if_pos serving, takeSecond_of_range range]

end Sys2Proof.Machine
end

section
/-! ## One lot at an interval event (R83, R95 to R101) -/

namespace Sys2Proof.Machine

open Sys2Proof

/-! ### The credit -/

/-- The lot after the credit of an interval event taken on s (R95). -/
def Lot.creditedIn (s : State) (l : Lot) : Lot := l.afterCredit fun b => s.lanes[b].temperature s.staleLimit

section
variable (s : State) (l : Lot)

theorem Lot.creditedIn_cases : (∃ t, l.creditedIn s = l.creditedAt t) ∨ l.creditedIn s = l :=
  (l.afterCredit_cases _).imp_left And.right

@[simp] theorem Lot.creditedIn_serial : (l.creditedIn s).serial = l.serial := by
  obtain ⟨t, e⟩ | e := l.creditedIn_cases s <;> rw [e]
  rfl

@[simp] theorem Lot.creditedIn_state : (l.creditedIn s).state = l.state := by
  obtain ⟨t, e⟩ | e := l.creditedIn_cases s <;> rw [e]
  rfl

@[simp] theorem Lot.creditedIn_hold : (l.creditedIn s).hold = l.hold := by
  obtain ⟨t, e⟩ | e := l.creditedIn_cases s <;> rw [e]
  rfl

@[simp] theorem Lot.creditedIn_place : (l.creditedIn s).place = l.place := by
  obtain ⟨t, e⟩ | e := l.creditedIn_cases s <;> rw [e]
  rfl

end

/-- A lane is stale exactly when it hands over no temperature (R83). -/
theorem Lane.staleAt_eq (limit : Nat) (lane : Lane) : lane.staleAt limit = (lane.temperature limit).isNone := by
  unfold Lane.temperature Lane.staleAt
  generalize lane.reading = reading
  cases reading with
  | none => rfl
  | some r => by_cases stale : limit ≤ r.age <;> simp [stale]

theorem handedTemperature_eq (s : State) (b : Bay) : s.handedTemperature b = s.lanes[b].temperature s.staleLimit := by
  unfold State.handedTemperature Lane.temperature Lane.staleAt
  generalize s.lanes[b] = lane
  obtain ⟨capacity, locked, lots, reading, stale⟩ := lane
  cases reading with
  | none => rfl
  | some r => by_cases stale : s.staleLimit ≤ r.age <;> simp [stale, Nat.not_lt.2, Nat.lt_of_not_le]

theorem Lot.creditedAt_eq_minuteOlder (t : Option Int) (l : Lot) : l.creditedAt t = l.minuteOlder t := by
  cases t <;> rfl

/-! ### The decisions -/

/-- The CURED and OVERDUE decisions (R98, R99). -/
theorem Lot.judged_eq (l : Lot) : l.judged = l.withState l.decidedState := by
  have meets : l.meetsCriteria = true ↔ l.effectiveTarget ≤ l.maturity ∧ l.minAge ≤ l.age := by simp [Lot.meetsCriteria]
  have judged : l.judged = if (l.state = .curing ∨ l.state = .overdue) ∧ l.meetsCriteria = true then l.withState .cured
      else if l.state = .curing ∧ l.maxAge ≤ l.age then l.withState .overdue else l := by
    simp only [meets]
    rfl
  rw [judged, Lot.decidedState]
  cases state : l.state with
  | curing =>
    by_cases ripe : l.meetsCriteria = true
    · simp [ripe]
    · by_cases old : l.maxAge ≤ l.age <;> simp [ripe, old, Lot.withState_self state]
  | overdue => by_cases ripe : l.meetsCriteria = true <;> simp [ripe, Lot.withState_self state]
  | dosed | void | cured | claimed | rejected => simp [Lot.withState_self state]

/-- A lot after its decisions (R98 to R100). -/
def Lot.decided (l : Lot) : Lot := if l.state.credited then (l.withState l.decidedState).cooled else l

/-- The lot is auto-held for heat while unheld (R100). -/
def Lot.heatHeld (l : Lot) : Bool := l.state.credited && l.overheats && l.hold = none

/-- The lot joins the queue after its decisions, unless it is a member (R101). -/
def Lot.joins (l : Lot) : Bool := l.decided.ready && l.atFront

/-- The kinds that the lot's decisions raise (R100). -/
def Lot.heatRaises (l : Lot) (st : Station) (k : AttnKind) : Bool :=
  l.heatHeld && (decide (st = supervisorStation) && decide (k = .hotHold)
    || decide (l.state = .claimed) && (decide (st = loadoutStation) && decide (k = .claimRevoked)))

/-- What the heat decision leaves of a lot (R100). -/
theorem Lot.cooled_cases (l : Lot) : (l.overheats = false ∧ l.cooled = l)
    ∨ (l.overheats = true ∧ l.hold ≠ none ∧ l.cooled = { l with hotHeld := true })
    ∨ (l.overheats = true ∧ l.hold = none ∧ l.cooled = l.heldForHeat) := by
  unfold Lot.cooled
  split
  case isTrue heats =>
    split
    case h_1 unheld => exact .inr (.inr ⟨heats, unheld, rfl⟩)
    case h_2 r held => exact .inr (.inl ⟨heats, by simp [held], rfl⟩)
  case isFalse cool => exact .inl ⟨by simpa using cool, rfl⟩

theorem Lot.cooled_serial (l : Lot) : l.cooled.serial = l.serial := by
  obtain ⟨-, e⟩ | ⟨-, -, e⟩ | ⟨-, -, e⟩ := l.cooled_cases <;> rw [e]
  rfl

theorem Lot.cooled_place (l : Lot) : l.cooled.place = l.place := by
  obtain ⟨-, e⟩ | ⟨-, -, e⟩ | ⟨-, -, e⟩ := l.cooled_cases <;> rw [e]
  rfl

@[simp] theorem Lot.decided_place (l : Lot) : l.decided.place = l.place := by
  unfold Lot.decided
  split
  · exact Lot.cooled_place _
  · rfl

@[simp] theorem Lot.decided_serial (l : Lot) : l.decided.serial = l.serial := by
  unfold Lot.decided
  split
  · exact Lot.cooled_serial _
  · rfl

theorem Lot.decided_of_credited {l : Lot} (h : l.state.credited = true) : l.decided = (l.withState l.decidedState).cooled :=
  if_pos h

theorem Lot.decided_of_idle {l : Lot} (h : l.state.credited = false) : l.decided = l := if_neg (by simp [h])

theorem Lot.heatHeld_iff {l : Lot} : l.heatHeld = true ↔ l.state.credited = true ∧ l.overheats = true ∧ l.hold = none := by
  simp [Lot.heatHeld, and_assoc]

theorem Lot.heatHeld_credited {l : Lot} (h : l.heatHeld = true) : l.state.credited = true := (Lot.heatHeld_iff.1 h).1

/-- Only a credited lot joins. -/
theorem Lot.joins_credited {l : Lot} (h : l.joins = true) : l.state.credited = true := by
  cases credited : l.state.credited with
  | true => rfl
  | false =>
    rw [Lot.joins, Lot.decided_of_idle credited, Bool.and_eq_true, Lot.ready_iff] at h
    obtain ⟨⟨cured, -⟩, -⟩ := h
    exact absurd (cured ▸ credited) nofun

theorem Lot.heatRaises_credited {l : Lot} {st : Station} {k : AttnKind} (h : l.heatRaises st k = true) :
    l.state.credited = true :=
  Lot.heatHeld_credited (Bool.and_eq_true_iff.1 h).1

theorem Lot.decided_of_heatHeld {l : Lot} (h : l.heatHeld = true) : l.decided = (l.withState l.decidedState).heldForHeat := by
  obtain ⟨credited, heats, unheld⟩ := Lot.heatHeld_iff.1 h
  rw [Lot.decided_of_credited credited]
  obtain ⟨cool, -⟩ | ⟨-, held, -⟩ | ⟨-, -, e⟩ := (l.withState l.decidedState).cooled_cases
  · exact absurd (heats.symm.trans cool) nofun
  · exact absurd unheld held
  · exact e

/-- A lot held for heat does not join (R101). -/
theorem Lot.joins_of_heatHeld {l : Lot} (h : l.heatHeld = true) : l.joins = false := by
  simp [Lot.joins, Lot.ready, Lot.decided_of_heatHeld h, Lot.heldForHeat]

/-- The heat decisions raise no condition, but the two latched kinds alone (R100). -/
theorem Lot.heatRaises_of_condition {k : AttnKind} (h : k.isCondition = true) (l : Lot) (st : Station) :
    l.heatRaises st k = false := by
  have latched : k ≠ .hotHold ∧ k ≠ .claimRevoked := by constructor <;> rintro rfl <;> exact absurd h nofun
  simp [Lot.heatRaises, latched]

/-! ### The interval's formulas, for a lot that is credited and for one that is not -/

section
variable (s : State) {l : Lot} (h : l.state.credited = true)
include h

theorem Lot.intervalJudged_of_credited {p : Place} (at_p : l.place = some p) :
    l.intervalJudged s = (l.minuteOlder (s.handedTemperature p.bay)).judged := by
  revert h
  unfold Lot.intervalJudged
  cases l.state <;> simp [LotState.credited, at_p]

theorem Lot.intervalLater_of_credited : l.intervalLater s = (l.intervalJudged s).cooled := by
  revert h
  unfold Lot.intervalLater
  cases l.state <;> simp [LotState.credited]

theorem Lot.hotHeldNow_of_credited : l.hotHeldNow s = ((l.intervalJudged s).overheats && l.hold = none) := by
  revert h
  unfold Lot.hotHeldNow
  cases l.state <;> simp [LotState.credited]

end

section
variable (s : State) {l : Lot} (h : l.state.credited = false)
include h

theorem Lot.creditedIn_of_idle : l.creditedIn s = l := by
  obtain ⟨credited, -⟩ | e := l.afterCredit_cases fun b => s.lanes[b].temperature s.staleLimit
  · exact absurd (credited.symm.trans h) nofun
  · exact e

theorem Lot.intervalLater_of_idle : l.intervalLater s = l := by
  revert h
  unfold Lot.intervalLater
  cases l.state <;> simp [LotState.credited]

theorem Lot.hotHeldNow_of_idle : l.hotHeldNow s = false := by
  revert h
  unfold Lot.hotHeldNow
  cases l.state <;> simp [LotState.credited]

end

/-! ### The credit, then the decisions -/

section
variable {l : Lot} (law : LotLaw l) (s : State)
include law

theorem Lot.intervalJudged_eq (credited : l.state.credited = true) :
    l.intervalJudged s = (l.creditedIn s).withState (l.creditedIn s).decidedState := by
  obtain ⟨p, at_p⟩ := Option.isSome_iff_exists.1 (law.placed.trans (LotState.inLane_of_credited credited))
  have older : l.creditedIn s = l.minuteOlder (s.handedTemperature p.bay) := by
    simp only [Lot.creditedIn, Lot.afterCredit, at_p, if_pos credited, handedTemperature_eq, Lot.creditedAt_eq_minuteOlder]
  rw [Lot.intervalJudged_of_credited s credited at_p, older, Lot.judged_eq]

theorem Lot.intervalLater_eq : l.intervalLater s = (l.creditedIn s).decided := by
  cases credited : l.state.credited with
  | true =>
    rw [Lot.decided_of_credited (by rw [Lot.creditedIn_state, credited]), Lot.intervalLater_of_credited s credited,
      Lot.intervalJudged_eq law s credited]
  | false =>
    rw [Lot.decided_of_idle (by rw [Lot.creditedIn_state, credited]), Lot.creditedIn_of_idle s credited,
      Lot.intervalLater_of_idle s credited]

theorem Lot.hotHeldNow_eq : l.hotHeldNow s = (l.creditedIn s).heatHeld := by
  rw [Lot.heatHeld, Lot.creditedIn_state, Lot.creditedIn_hold]
  cases credited : l.state.credited with
  | true =>
    rw [Lot.hotHeldNow_of_credited s credited, Lot.intervalJudged_eq law s credited, Bool.true_and]
    rfl
  | false => rw [Lot.hotHeldNow_of_idle s credited, Bool.false_and, Bool.false_and]

end

end Sys2Proof.Machine
end

section
/-! ## The decisions of an interval, lot after lot (R98 to R101)

What the decisions do to the lots, the queue, the claims and the pending sets is said of any list of serials, each judged once, so
that the decisions on two lists follow one another. -/

namespace Sys2Proof.Machine

open Sys2Proof

/-- t is s after the lots of the serials judged have been judged in this order. -/
structure LotsJudged (judged : List Nat) (s t : State) : Prop where
  lots : t.lots = s.lots.map fun l => if l.serial ∈ judged then l.decided else l
  queue : t.queue = s.queue.filter (fun serial => !(decide (serial ∈ judged) && (s.lot? serial).any Lot.heatHeld))
    ++ judged.filter fun serial => !decide (serial ∈ s.queue) && (s.lot? serial).any Lot.joins
  claims : t.claims = s.claims.filter fun c => !(decide (c.serial ∈ judged) && (s.lot? c.serial).any Lot.heatHeld)
  kinds : ∀ (st : Station) (k : AttnKind), t.pendingKinds[st].has k
    = (s.pendingKinds[st].has k || judged.any fun serial => (s.lot? serial).any fun l => l.heatRaises st k)
  raised : KindsRaised s t
  change : ClaimsChange s t

/-- A lot that is not judged is found as it was. -/
theorem LotsJudged.lot?_of_not_mem {judged : List Nat} {s t : State} (h : LotsJudged judged s t) {serial : Nat}
    (later : serial ∉ judged) : t.lot? serial = s.lot? serial := by
  simp only [State.lot?, h.lots]
  induction s.lots with
  | nil => rfl
  | cons l rest ih =>
    by_cases found : l.serial = serial
    · simp [found, later]
    · have kept : (if l.serial ∈ judged then l.decided else l).serial = l.serial := by split <;> simp
      simp only [List.map_cons, List.find?_cons, kept, found, decide_false, ih]

/-- The decisions on different lots follow one another. -/
theorem LotsJudged.trans {judged more : List Nat} {s u t : State} (a : LotsJudged judged s u) (b : LotsJudged more u t)
    (apart : ∀ serial ∈ more, serial ∉ judged) : LotsJudged (judged ++ more) s t := by
  have found {serial : Nat} (later : serial ∈ more) : u.lot? serial = s.lot? serial := a.lot?_of_not_mem (apart serial later)
  have heats (serial : Nat) : (!(decide (serial ∈ judged ++ more) && (s.lot? serial).any Lot.heatHeld))
      = (!(decide (serial ∈ judged) && (s.lot? serial).any Lot.heatHeld)
        && !(decide (serial ∈ more) && (u.lot? serial).any Lot.heatHeld)) := by
    by_cases later : serial ∈ more
    · simp [later, found later, apart serial later]
    · simp [later]
  exact
    { lots := by
        rw [b.lots, a.lots, List.map_map]
        refine List.map_congr_left fun l _ => ?_
        by_cases later : l.serial ∈ more
        · simp [later, apart _ later]
        · by_cases earlier : l.serial ∈ judged <;> simp [later, earlier]
      queue := by
        have settled : (judged.filter fun serial => !decide (serial ∈ s.queue) && (s.lot? serial).any Lot.joins).filter
            (fun serial => !(decide (serial ∈ more) && (u.lot? serial).any Lot.heatHeld))
            = judged.filter fun serial => !decide (serial ∈ s.queue) && (s.lot? serial).any Lot.joins := by
          refine List.filter_eq_self.2 fun serial joined => ?_
          have later : serial ∉ more := fun later => apart serial later (List.mem_of_mem_filter joined)
          simp [later]
        have joined : (more.filter fun serial => !decide (serial ∈ u.queue) && (u.lot? serial).any Lot.joins)
            = more.filter fun serial => !decide (serial ∈ s.queue) && (s.lot? serial).any Lot.joins := by
          refine List.filter_congr fun serial later => ?_
          have queued : serial ∈ u.queue ↔ serial ∈ s.queue := by simp [a.queue, apart serial later]
          rw [found later, decide_eq_decide.2 queued]
        rw [b.queue, joined, a.queue, List.filter_append, settled, List.filter_filter, List.filter_append, List.append_assoc]
        simp only [heats, Bool.and_comm]
      claims := by
        rw [b.claims, a.claims, List.filter_filter]
        simp only [heats, Bool.and_comm]
      kinds := fun st k => by
        rw [b.kinds, a.kinds, List.any_append, Bool.or_assoc]
        refine congrArg _ (congrArg _ ?_)
        rw [Bool.eq_iff_iff]
        simp only [List.any_eq_true]
        exact exists_congr fun serial => and_congr_right fun later => by rw [found later]
      raised := a.raised.trans b.raised
      change := a.change.trans b.change }

/-! ### The decision on a lot's heat -/

section
variable {l : Lot} (s : State)

theorem judgeHeat_of_cool (cool : l.overheats = false) : judgeHeat l s = s :=
  if_neg (by rw [show l.autoHeld = false from cool]; nofun)

theorem judgeHeat_of_held (heats : l.overheats = true) (held : l.hold ≠ none) :
    judgeHeat l s = changeLot l.serial (fun x => { x with hotHeld := true }) s := by
  rw [judgeHeat, if_pos (show l.autoHeld = true from heats)]
  split
  · next unheld => exact absurd unheld held
  · rfl

theorem judgeHeat_of_unheld (heats : l.overheats = true) (unheld : l.hold = none) :
    judgeHeat l s = if l.state = .claimed
      then revokeClaim l.serial (raise supervisorStation .hotHold (leaveQueue l.serial (changeLot l.serial Lot.heldForHeat s)))
      else raise supervisorStation .hotHold (leaveQueue l.serial (changeLot l.serial Lot.heldForHeat s)) := by
  rw [judgeHeat, if_pos (show l.autoHeld = true from heats), unheld]
  rfl

end

/-- v is s after the CURED, OVERDUE and heat decisions on the lot l (R98 to R100). -/
structure LotDecided (l : Lot) (s v : State) : Prop where
  lots : v.lots = replaceLot l.decided s.lots
  queue : v.queue = if l.heatHeld = true then s.queue.filter (· ≠ l.serial) else s.queue
  claims : v.claims = if l.heatHeld = true then s.claims.filter (·.serial ≠ l.serial) else s.claims
  kinds : ∀ (st : Station) (k : AttnKind), v.pendingKinds[st].has k = (s.pendingKinds[st].has k || l.heatRaises st k)
  raised : KindsRaised s v
  change : ClaimsChange s v

section
variable {s t : State} {l : Lot}

/-- A lot not held for heat: the decisions are on its record alone. -/
theorem LotDecided.of_spared (spared : l.heatHeld = false) (lots : t.lots = replaceLot l.decided s.lots)
    (change : t = { s with lots := t.lots }) : LotDecided l s t where
  lots := lots
  queue := by rw [spared, change]; rfl
  claims := by rw [spared, change]; rfl
  kinds st k := by rw [Lot.heatRaises, spared, Bool.false_and, Bool.or_false, change]
  raised := by
    rw [change]
    exact .of_eq rfl rfl rfl
  change := by
    rw [change]
    rfl

end

section
variable {s : State} (h : HallParts s) {l : Lot} (mem : l ∈ s.lots)
include h mem

/-- A lot changed twice. -/
theorem HallParts.changeLot_changeLot_lots {f g : Lot → Lot} (f_serial : (f l).serial = l.serial)
    (g_serial : (g (f l)).serial = l.serial) :
    (changeLot l.serial g (changeLot l.serial f s)).lots = replaceLot (g (f l)) s.lots := by
  have r : LotReplaced l (f l) s (changeLot l.serial f s) := ⟨mem, f_serial, h.serials.map_changed mem f_serial⟩
  have same := g_serial.trans f_serial.symm
  have again := (r.mapped.serialLaw rfl h.serials).map_changed r.new_mem same
  rw [f_serial] at again
  refine again.trans ?_
  rw [r.lots, replaceLot_replaceLot same]

/-- The claims that name a lot other than CLAIMED: none (R111). -/
theorem HallParts.claims_of_unclaimed (unclaimed : l.state ≠ .claimed) :
    s.claims.filter (·.serial ≠ l.serial) = s.claims := by
  refine List.filter_eq_self.2 fun c named => ?_
  have absent : l.serial ∉ s.claims.map (·.serial) := mt (h.claims.exact l mem).1 unclaimed
  simp only [decide_eq_true_eq]
  exact fun same => absent (same ▸ List.mem_map_of_mem named)

/-- A hot auto-hold of an unheld lot: it is out of the queue, and its claim, if it was CLAIMED, is revoked (R100). -/
theorem holdForHeat_decided (held : l.heatHeld = true) : LotDecided l s
    (judgeHeat (l.withState l.decidedState) (changeLot l.serial (Lot.withState l.decidedState) s)) := by
  have lots := h.changeLot_changeLot_lots mem (f := Lot.withState l.decidedState) (g := Lot.heldForHeat) rfl rfl
  rw [← Lot.decided_of_heatHeld held] at lots
  have raised : KindsRaised s (leaveQueue l.serial (changeLot l.serial Lot.heldForHeat
    (changeLot l.serial (Lot.withState l.decidedState) s))) := .of_eq rfl rfl rfl
  obtain ⟨-, heats, unheld⟩ := Lot.heatHeld_iff.1 held
  rw [judgeHeat_of_unheld (l := l.withState l.decidedState) _ heats unheld]
  split
  case isTrue claimed =>
    have claimed := Lot.decidedState_eq_claimed.1 claimed
    exact
      { lots := lots
        queue := by rw [held]; rfl
        claims := by rw [held]; rfl
        kinds := fun st k => by
          rw [revokeClaim, raise_has]
          show ((raise _ _ _).pendingKinds[st].has k || _) = _
          rw [raise_has, Lot.heatRaises, held, claimed, Bool.or_assoc]
          rfl
        raised := ((raised.raise _ _).trans (kindsRaised_removeClaim _ _)).raise _ _
        change := rfl }
  case isFalse other =>
    have unclaimed := mt Lot.decidedState_eq_claimed.2 other
    exact
      { lots := lots
        queue := by rw [held]; rfl
        claims := by
          rw [held, if_pos rfl, h.claims_of_unclaimed mem unclaimed]
          rfl
        kinds := fun st k => by
          rw [raise_has, Lot.heatRaises, held, decide_eq_false unclaimed, Bool.false_and, Bool.or_false]
          rfl
        raised := raised.raise _ _
        change := rfl }

theorem judgeHeat_decided (credited : l.state.credited = true) : LotDecided l s
    (judgeHeat (l.withState l.decidedState) (changeLot l.serial (Lot.withState l.decidedState) s)) := by
  have decided := Lot.decided_of_credited credited
  obtain ⟨cool, e⟩ | ⟨heats, held, e⟩ | ⟨heats, unheld, -⟩ := (l.withState l.decidedState).cooled_cases
  · rw [judgeHeat_of_cool _ cool]
    refine .of_spared (by simp [Lot.heatHeld, show l.overheats = false from cool]) ?_ rfl
    rw [decided, e]
    exact h.serials.map_changed mem rfl
  · rw [judgeHeat_of_held _ heats held]
    refine .of_spared (by simp [Lot.heatHeld, show l.hold ≠ none from held]) ?_ rfl
    rw [decided, e]
    exact h.changeLot_changeLot_lots mem rfl rfl
  · exact holdForHeat_decided h mem (Lot.heatHeld_iff.2 ⟨credited, heats, unheld⟩)

/-! ### The join -/

theorem judgeJoin_eq {v : State} (d : LotDecided l s v) :
    judgeJoin l.serial v = if l.joins = true then joinTail l.serial v else v := by
  have r : LotReplaced l l.decided s v := ⟨mem, l.decided_serial, d.lots⟩
  have serials : SerialLaw v := r.mapped.serialLaw (by rw [d.change]) h.serials
  have found : v.lot? l.serial = some l.decided := serials.lot?_eq_some_iff.2 ⟨r.new_mem, l.decided_serial⟩
  have front : l.decided.atFront = l.atFront := Lot.atFront_congr l.decided_place
  simp only [judgeJoin, found, front]
  rfl

theorem LotDecided.judged {v : State} (d : LotDecided l s v) : LotsJudged [l.serial] s (judgeJoin l.serial v) := by
  have found : s.lot? l.serial = some l := h.serials.lot?_serial mem
  have rest : (judgeJoin l.serial v) = { v with queue := (judgeJoin l.serial v).queue } := by
    rw [judgeJoin_eq h mem d]
    split <;> rfl
  have only (serial : Nat) : (decide (serial ∈ [l.serial]) && (s.lot? serial).any Lot.heatHeld)
      = (decide (serial = l.serial) && l.heatHeld) := by
    by_cases self : serial = l.serial
    · simp [self, found]
    · simp [self]
  exact
    { lots := by
        rw [rest]
        refine d.lots.trans (List.map_congr_left fun k live => ?_)
        by_cases self : k.serial = l.serial
        · simp [h.serials.eq_of_serial_eq live mem self]
        · simp [self]
      queue := by
        simp only [only]
        rw [judgeJoin_eq h mem d]
        cases held : l.heatHeld with
        | true =>
          rw [Lot.joins_of_heatHeld held, if_neg nofun, d.queue, if_pos held]
          simp [found, Lot.joins_of_heatHeld held]
        | false =>
          have queue : v.queue = s.queue := by rw [d.queue, held, if_neg nofun]
          cases joins : l.joins with
          | true => by_cases queued : l.serial ∈ s.queue <;> simp [joinTail, queue, found, joins, queued]
          | false => simp [queue, found, joins]
      claims := by
        rw [rest]
        simp only [only]
        refine d.claims.trans ?_
        cases l.heatHeld <;> simp
      kinds := fun st k => by
        rw [rest]
        refine (d.kinds st k).trans ?_
        simp [found]
      raised := d.raised.trans (by rw [rest]; exact .of_eq rfl rfl rfl)
      change := by
        rw [rest]
        exact d.change.trans rfl }

end

/-! ### Every lot -/

section
variable {s : State} (h : HallParts s)
include h

/-- A lot that is not credited is not judged. -/
theorem LotsJudged.of_idle {serial : Nat} (idle : (s.lot? serial).any (·.state.credited) = false) : LotsJudged [serial] s s := by
  have none {p : Lot → Bool} (only : ∀ l, p l = true → l.state.credited = true) : (s.lot? serial).any p = false := by
    rw [Option.any_eq_false] at idle ⊢
    exact fun l found => Bool.eq_false_iff.2 fun holds => absurd ((only l holds).symm.trans (idle l found)) nofun
  have spared (other : Nat) : (decide (other ∈ [serial]) && (s.lot? other).any Lot.heatHeld) = false := by
    by_cases self : other = serial
    · simp [self, none fun _ => Lot.heatHeld_credited]
    · simp [self]
  exact
    { lots := by
        refine ((List.map_congr_left fun l live => ?_).trans (List.map_id _)).symm
        by_cases self : l.serial = serial
        · rw [← self, h.serials.lot?_serial live] at idle
          rw [if_pos (List.mem_singleton.2 self), Lot.decided_of_idle idle]
          rfl
        · exact if_neg (mt List.mem_singleton.1 self)
      queue := by
        simp only [spared]
        simp [none fun _ => Lot.joins_credited]
      claims := by
        simp only [spared]
        simp
      kinds := fun st k => by simp [none fun _ => Lot.heatRaises_credited]
      raised := .of_eq rfl rfl rfl
      change := rfl }

theorem judgeLot_judged (serial : Nat) : LotsJudged [serial] s (judgeLot serial s) := by
  unfold judgeLot
  split
  case h_1 l found =>
    obtain ⟨mem, rfl⟩ := mem_of_lot? s found
    split
    case isTrue credited => exact (judgeHeat_decided h mem credited).judged h mem
    case isFalse idle =>
      refine .of_idle h ?_
      rw [found]
      simpa using idle
  case h_2 missing =>
    refine .of_idle h ?_
    rw [missing]
    rfl

/-- The decisions of an interval, each lot judged once. -/
theorem judgeLots_judged {serials : List Nat} (distinct : serials.Nodup) : LotsJudged serials s (judgeLots serials s) := by
  induction serials generalizing s with
  | nil =>
    exact
      { lots := by simp [judgeLots]
        queue := by simp [judgeLots]
        claims := by simp [judgeLots]
        kinds := by simp [judgeLots]
        raised := .of_eq rfl rfl rfl
        change := rfl }
  | cons serial rest ih =>
    obtain ⟨new, distinct⟩ := List.nodup_cons.1 distinct
    refine (judgeLot_judged h serial).trans (ih (judgeLot_ages serial s h).1 distinct) fun later mem => ?_
    exact fun first => new (List.mem_singleton.1 first ▸ mem)

end

end Sys2Proof.Machine
end

section
/-! ## The order in which the lots are judged (R71, section 6.5) -/

namespace Sys2Proof.Machine

open Sys2Proof

theorem mem_lanes {s : State} {lane : Lane} : lane ∈ s.lanes.toList ↔ ∃ b : Bay, s.lanes[b] = lane := by
  simp only [Vector.mem_toList_iff, Vector.mem_iff_getElem]
  exact ⟨fun ⟨i, hi, same⟩ => ⟨⟨i, hi⟩, same⟩, fun ⟨b, same⟩ => ⟨b.val, b.isLt, same⟩⟩

theorem mem_lotsInLaneOrder_iff {s : State} {serial : Nat} :
    serial ∈ s.lotsInLaneOrder ↔ ∃ b : Bay, serial ∈ s.lanes[b].lots := by
  simp only [State.lotsInLaneOrder, List.mem_flatMap, mem_lanes, exists_exists_eq_and]

theorem mem_fronts {s : State} {serial : Nat} : serial ∈ s.fronts ↔ ∃ b : Bay, s.lanes[b].lots.head? = some serial := by
  simp only [State.fronts, List.mem_filterMap, mem_lanes, exists_exists_eq_and]

/-- Of a list of lists whose elements but the first do not pass a test, the elements that pass are among the first ones. -/
theorem filter_flatMap_eq_filter_heads {α β : Type} {f : α → List β} {p : β → Bool} {as : List α}
    (behind : ∀ a ∈ as, ∀ x ∈ (f a).tail, p x = false) :
    (as.flatMap f).filter p = (as.filterMap fun a => (f a).head?).filter p := by
  induction as with
  | nil => rfl
  | cons a rest ih =>
    rw [List.flatMap_cons, List.filter_append, ih fun b mem => behind b (List.mem_cons_of_mem a mem)]
    have own := behind a List.mem_cons_self
    cases lots : f a with
    | nil => simp [lots]
    | cons x tail =>
      rw [lots] at own
      have none : tail.filter p = [] := by simpa [List.filter_eq_nil_iff] using own
      rw [List.filterMap_cons_some (b := x) (by rw [lots]; rfl), List.filter_cons, List.filter_cons, none]
      split <;> rfl

section
variable {s : State} (h : HallParts s)
include h

theorem HallParts.mem_lotsInLaneOrder {l : Lot} (mem : l ∈ s.lots) :
    l.serial ∈ s.lotsInLaneOrder ↔ l.state.inLane = true := by
  rw [mem_lotsInLaneOrder_iff, ← (h.lots l mem).placed, Option.isSome_iff_exists]
  simp only [h.lanes.mem_iff h.serials mem, Option.map_eq_some_iff]
  exact ⟨fun ⟨_, p, at_p, _⟩ => ⟨p, at_p⟩, fun ⟨p, at_p⟩ => ⟨p.bay, p, at_p, rfl⟩⟩

/-- A serial in a lane's list is that of a lot that stands there. -/
theorem HallParts.lot?_of_lane {b : Bay} {i serial : Nat} (listed : s.lanes[b].lots[i]? = some serial) :
    ∃ l p, s.lot? serial = some l ∧ l.place = some p ∧ p.bay = b ∧ p.position = i := by
  obtain ⟨l, live, rfl, bay, position⟩ := h.lanes.standing b i serial listed
  obtain ⟨p, at_p, rfl⟩ := Option.map_eq_some_iff.1 bay
  rw [at_p, Option.map_some, Option.some.injEq] at position
  exact ⟨l, p, h.serials.lot?_serial live, at_p, rfl, position⟩

/-- No lot is judged twice. -/
theorem HallParts.lotsInLaneOrder_nodup : s.lotsInLaneOrder.Nodup := by
  refine List.nodup_flatMap.2 ⟨fun lane mem => ?_, List.pairwise_iff_getElem.2 fun i j hi hj less => ?_⟩
  · obtain ⟨b, rfl⟩ := mem_lanes.1 mem
    exact h.lanes.distinct b
  · rw [Vector.length_toList] at hi hj
    intro serial first second
    obtain ⟨m, at_m⟩ := List.mem_iff_getElem?.1 first
    obtain ⟨n, at_n⟩ := List.mem_iff_getElem?.1 second
    obtain ⟨k, p, found_k, at_p, bay_i, -⟩ := h.lot?_of_lane (b := ⟨i, hi⟩) (by simpa using at_m)
    obtain ⟨l, q, found_l, at_q, bay_j, -⟩ := h.lot?_of_lane (b := ⟨j, hj⟩) (by simpa using at_n)
    obtain rfl := Option.some.inj (found_k.symm.trans found_l)
    obtain rfl := Option.some.inj (at_p.symm.trans at_q)
    exact absurd (congrArg Fin.val (bay_i.symm.trans bay_j)) less.ne

/-- A lot behind the front of its lane is not at the front. -/
theorem HallParts.not_atFront_of_behind {b : Bay} {serial : Nat} (behind : serial ∈ s.lanes[b].lots.tail) :
    ∃ l, s.lot? serial = some l ∧ l.atFront = false := by
  obtain ⟨i, at_i⟩ := List.mem_iff_getElem?.1 behind
  obtain ⟨l, p, found, at_p, -, position⟩ := h.lot?_of_lane (List.getElem?_tail ▸ at_i)
  exact ⟨l, found, by simp [Lot.atFront, at_p, position]⟩

theorem HallParts.atFront_of_mem_fronts {serial : Nat} (front : serial ∈ s.fronts) :
    ∃ l, s.lot? serial = some l ∧ l.atFront = true := by
  obtain ⟨b, head⟩ := mem_fronts.1 front
  obtain ⟨l, p, found, at_p, -, position⟩ := h.lot?_of_lane (List.head?_eq_getElem? ▸ head)
  exact ⟨l, found, by simp [Lot.atFront, at_p, position]⟩

/-- Of the lots in the order of judgement, those at the front that pass a test are the fronts that pass it. -/
theorem HallParts.filter_lotsInLaneOrder (p : Nat → Bool) (q : Lot → Bool) :
    (s.lotsInLaneOrder.filter fun serial => p serial && (s.lot? serial).any fun l => q l && l.atFront)
      = s.fronts.filter fun serial => p serial && (s.lot? serial).any q := by
  refine (filter_flatMap_eq_filter_heads fun lane mem serial behind => ?_).trans (List.filter_congr fun serial front => ?_)
  · obtain ⟨b, rfl⟩ := mem_lanes.1 mem
    obtain ⟨l, found, rear⟩ := h.not_atFront_of_behind behind
    simp [found, rear]
  · obtain ⟨l, found, front⟩ := h.atFront_of_mem_fronts front
    simp [found, front]

end

end Sys2Proof.Machine
end

section
/-! ## The reports of a taking (R157, R158) -/

namespace Sys2Proof.Machine

open Sys2Proof

/-- A report makes its kind pending as the condition stands, and touches no other (R157). -/
theorem reportCondition_has (k : AttnKind) (value : Bool) (s : State) (st : Station) (j : AttnKind) :
    (reportCondition k value s).pendingKinds[st].has j
      = if j = k ∧ receives st k = true then value else s.pendingKinds[st].has j := by
  cases value with
  | true =>
    rw [reportCondition, if_pos rfl, raiseFor_has]
    by_cases self : j = k <;> cases receives st k <;> simp [self]
  | false =>
    rw [reportCondition, if_neg nofun, dropKind_pendingKinds_get]
    by_cases self : j = k <;> cases receives st k <;> simp [self]

/-- The news since s after the report of a condition that was pending as it was in s: its own news, if it is raised. -/
theorem reportCondition_newsSince {s t : State} (masks : t.masks = s.masks) {k : AttnKind} {st : Station}
    (unreported : t.pendingKinds[st].has k = s.pendingKinds[st].has k) (value : Bool) :
    (reportCondition k value t).newsSince s st
      = (t.newsSince s st || (value && receives st k && newsFor t st k)) := by
  have listed : k ∈ allKinds := by cases k <;> decide
  rw [Bool.eq_iff_iff]
  simp only [State.newsSince, List.any_eq_true, reportCondition_has, newsFor, masks, unreported, Bool.and_eq_true, Bool.or_eq_true,
    Bool.not_eq_true']
  constructor
  · rintro ⟨j, mem, ⟨held, fresh⟩, unmasked⟩
    by_cases self : j = k ∧ receives st k = true
    · rw [if_pos self] at held
      obtain ⟨rfl, receiver⟩ := self
      exact .inr ⟨⟨held, receiver⟩, fresh, unmasked⟩
    · rw [if_neg self] at held
      exact .inl ⟨j, mem, ⟨held, fresh⟩, unmasked⟩
  · rintro (⟨j, mem, ⟨held, fresh⟩, unmasked⟩ | ⟨⟨raised, receiver⟩, fresh, unmasked⟩)
    · have other : j ≠ k := by
        rintro rfl
        exact absurd (held.symm.trans (unreported.trans fresh)) nofun
      exact ⟨j, mem, ⟨by rwa [if_neg fun self => other self.1], fresh⟩, unmasked⟩
    · exact ⟨k, listed, ⟨by rwa [if_pos ⟨rfl, receiver⟩], fresh⟩, unmasked⟩

/-- The report of a condition that no part of the taking has reported before: the notices follow it too (R158). -/
theorem NoticesFollow.report {s t : State} (n : NoticesFollow s t) (masks : t.masks = s.masks) {k : AttnKind}
    (unreported : ∀ st : Station, t.pendingKinds[st].has k = s.pendingKinds[st].has k) (value : Bool) :
    NoticesFollow s (reportCondition k value t) where
  notices st := by
    rw [reportCondition_newsSince masks (unreported st)]
    cases value with
    | true =>
      rw [reportCondition, if_pos rfl, raiseFor_slots_noticeSlot, n.notices, Bool.true_and]
      cases t.newsSince s st <;> cases receives st k && newsFor t st k <;> simp
    | false =>
      rw [Bool.false_and, Bool.false_and, Bool.or_false]
      exact n.notices st
  otherSlots i other := by
    cases value with
    | true => exact (raiseFor_slots_of_ne _ _ _ other).trans (n.otherSlots i other)
    | false => exact n.otherSlots i other

theorem reportCondition_change (k : AttnKind) (value : Bool) (s : State) : ClaimsChange s (reportCondition k value s) := by
  unfold reportCondition
  split <;> rfl

end Sys2Proof.Machine
end

section
/-! ## The interval event (R83, R89, R91, R95 to R103) -/

namespace Sys2Proof.Machine

open Sys2Proof

/-! ### The credit of the hall -/

/-- The state after the credit of an interval event, before its decisions (R83, R91, R95). -/
def creditInterval (s : State) : State :=
  creditLots (fun b => s.lanes[b].temperature s.staleLimit) (judgeLanes (raisePlantMinute s))

theorem takeInterval_eq (s : State) : takeInterval s = reportInterval (judgeLots s.lotsInLaneOrder (creditInterval s)) := rfl

theorem judgeLanes_raisePlantMinute (s : State) : judgeLanes (raisePlantMinute s)
    = { s with plantMinute := (raisePlantMinute s).plantMinute, lanes := (judgeLanes s).lanes } := rfl

/-- The credit in one record update. -/
theorem creditInterval_eq (s : State) : creditInterval s = { s with
    plantMinute := (raisePlantMinute s).plantMinute
    lanes := (judgeLanes s).lanes
    lots := s.lots.map (Lot.creditedIn s) } := by
  rw [creditInterval, judgeLanes_raisePlantMinute]
  rfl

section
variable (s : State)

theorem creditInterval_lots : (creditInterval s).lots = s.lots.map (Lot.creditedIn s) := by rw [creditInterval_eq]

theorem creditInterval_queue : (creditInterval s).queue = s.queue := by rw [creditInterval_eq]

theorem creditInterval_claims : (creditInterval s).claims = s.claims := by rw [creditInterval_eq]

theorem creditInterval_pendingKinds : (creditInterval s).pendingKinds = s.pendingKinds := by rw [creditInterval_eq]

theorem creditInterval_raised : KindsRaised s (creditInterval s) :=
  .of_eq (creditInterval_pendingKinds s) (by rw [creditInterval_eq]) (by rw [creditInterval_eq])

theorem creditInterval_change : ClaimsChange
    { s with plantMinute := (raisePlantMinute s).plantMinute, lanes := (judgeLanes s).lanes } (creditInterval s) := by
  rw [creditInterval_eq]
  rfl

end

theorem creditInterval_hallParts {s : State} (h : HallParts s) : HallParts (creditInterval s) := by
  have raised : SameHall s (raisePlantMinute s) := {}
  exact ((raised.trans (same_judgeLanes _)).ages.trans (creditLots_ages _ _) h).1

theorem creditInterval_lot? (s : State) (serial : Nat) :
    (creditInterval s).lot? serial = (s.lot? serial).map (Lot.creditedIn s) := by
  simp only [State.lot?, creditInterval_lots, List.find?_map, Function.comp_def, Lot.creditedIn_serial]

section
variable {s : State} (h : HallParts s)
include h

theorem creditInterval_judged :
    LotsJudged s.lotsInLaneOrder (creditInterval s) (judgeLots s.lotsInLaneOrder (creditInterval s)) :=
  judgeLots_judged (creditInterval_hallParts h) h.lotsInLaneOrder_nodup

/-- A lot that passes a test that only credited lots pass is judged. -/
theorem judged_of_any {p : Lot → Bool} (only : ∀ l, p l = true → l.state.credited = true) {serial : Nat}
    (passed : ((creditInterval s).lot? serial).any p = true) : serial ∈ s.lotsInLaneOrder := by
  rw [creditInterval_lot?, Option.any_map, Option.any_eq_true] at passed
  obtain ⟨l, found, passed⟩ := passed
  obtain ⟨live, rfl⟩ := mem_of_lot? s found
  exact (h.mem_lotsInLaneOrder live).2 (LotState.inLane_of_credited (l.creditedIn_state s ▸ only _ passed))

theorem any_judged {p : Lot → Bool} (only : ∀ l, p l = true → l.state.credited = true) :
    (s.lotsInLaneOrder.any fun serial => ((creditInterval s).lot? serial).any p) = s.lots.any fun l => p (l.creditedIn s) := by
  rw [Bool.eq_iff_iff, List.any_eq_true, List.any_eq_true]
  constructor
  · rintro ⟨serial, -, passed⟩
    rw [creditInterval_lot?, Option.any_map, Option.any_eq_true] at passed
    obtain ⟨l, found, passed⟩ := passed
    exact ⟨l, (mem_of_lot? s found).1, passed⟩
  · rintro ⟨l, live, passed⟩
    have found : ((creditInterval s).lot? l.serial).any p = true := by
      rwa [creditInterval_lot?, h.serials.lot?_serial live]
    exact ⟨l.serial, judged_of_any h only found, found⟩

theorem any_heatHeld (serial : Nat) :
    ((creditInterval s).lot? serial).any Lot.heatHeld = (s.lot? serial).any (Lot.hotHeldNow s) := by
  rw [creditInterval_lot?, Option.any_map]
  cases found : s.lot? serial with
  | none => rfl
  | some l => exact (Lot.hotHeldNow_eq (h.lots l (mem_of_lot? s found).1) s).symm

theorem any_joins (serial : Nat) : ((creditInterval s).lot? serial).any Lot.joins
    = (s.lot? serial).any fun l => (l.intervalLater s).ready && l.atFront := by
  rw [creditInterval_lot?, Option.any_map]
  cases found : s.lot? serial with
  | none => rfl
  | some l =>
    simp only [Option.any_some, Lot.joins, Lot.intervalLater_eq (h.lots l (mem_of_lot? s found).1) s,
      Lot.atFront_congr (l.creditedIn_place s)]

/-- The test of the decisions on the queue and the claims, in the terms of the state before the event. -/
theorem judged_and_heatHeld (serial : Nat) : (decide (serial ∈ s.lotsInLaneOrder)
    && ((creditInterval s).lot? serial).any Lot.heatHeld) = (s.lot? serial).any (Lot.hotHeldNow s) := by
  rw [← any_heatHeld h]
  cases held : ((creditInterval s).lot? serial).any Lot.heatHeld with
  | true => rw [decide_eq_true (judged_of_any h (fun _ => Lot.heatHeld_credited) held), Bool.true_and]
  | false => rw [Bool.and_false]

end

/-! ### The decisions on the hall -/

/-- v is s after the credit and the decisions of an interval event, before its reports (R95 to R101). -/
structure IntervalDecided (s v : State) : Prop where
  lots : v.lots = s.lots.map (Lot.intervalLater s)
  queue : v.queue = s.queue.filter (fun serial => !(s.lot? serial).any (Lot.hotHeldNow s))
    ++ s.fronts.filter fun serial => !s.queue.contains serial && (s.lot? serial).any fun l => (l.intervalLater s).ready
  claims : v.claims = s.claims.filter fun c => !(s.lot? c.serial).any (Lot.hotHeldNow s)
  kinds : ∀ (st : Station) (k : AttnKind), v.pendingKinds[st].has k
    = (s.pendingKinds[st].has k || s.lots.any fun l => (l.creditedIn s).heatRaises st k)
  raised : KindsRaised s v
  change : ClaimsChange { s with plantMinute := (raisePlantMinute s).plantMinute, lanes := (judgeLanes s).lanes } v

theorem intervalDecided {s : State} (h : HallParts s) : IntervalDecided s (judgeLots s.lotsInLaneOrder (creditInterval s)) := by
  have j := creditInterval_judged h
  exact
    { lots := by
        rw [j.lots, creditInterval_lots, List.map_map]
        refine List.map_congr_left fun l live => ?_
        have law := h.lots l live
        rw [Function.comp, Lot.creditedIn_serial, Lot.intervalLater_eq law s]
        split
        case isTrue => rfl
        case isFalse elsewhere =>
          have idle : (l.creditedIn s).state.credited = false := by
            rw [Lot.creditedIn_state]
            exact Bool.eq_false_iff.2 fun credited => elsewhere
              ((h.mem_lotsInLaneOrder live).2 (LotState.inLane_of_credited credited))
          rw [Lot.decided_of_idle idle]
      queue := by
        rw [j.queue]
        simp only [judged_and_heatHeld h, any_joins h]
        rw [h.filter_lotsInLaneOrder, creditInterval_queue]
        simp only [List.contains_eq_mem]
      claims := by
        rw [j.claims]
        simp only [judged_and_heatHeld h, creditInterval_claims]
      kinds := fun st k => by
        rw [j.kinds, any_judged h fun _ => Lot.heatRaises_credited, creditInterval_pendingKinds]
      raised := (creditInterval_raised s).trans j.raised
      change := (creditInterval_change s).trans j.change }

/-! ### The reports of the interval -/

section
variable (v : State)

theorem reportInterval_eq : reportInterval v = reportCondition .queueReady v.queueHolds
    (reportCondition .bayStale v.anyStale (reportCondition .overduePresent v.anyOverdue v)) := by
  simp [reportInterval, reportQueue, reportStale, reportOverdue, State.queueHolds, State.anyStale]

theorem reportInterval_lots : (reportInterval v).lots = v.lots := by simp [reportInterval]

theorem reportInterval_lanes : (reportInterval v).lanes = v.lanes := by simp [reportInterval]

theorem reportInterval_queue : (reportInterval v).queue = v.queue := by simp [reportInterval]

theorem reportInterval_claims : (reportInterval v).claims = v.claims := by simp [reportInterval]

theorem reportInterval_change : ClaimsChange v (reportInterval v) := by
  rw [reportInterval_eq]
  exact ((reportCondition_change _ _ _).trans (reportCondition_change _ _ _)).trans (reportCondition_change _ _ _)

/-- What an interval event reports (R85, R103, R124). -/
theorem reportInterval_has (st : Station) (k : AttnKind) : (reportInterval v).pendingKinds[st].has k
    = if receives st k = true then match k with
      | .overduePresent => v.anyOverdue
      | .bayStale => v.anyStale
      | .queueReady => v.queueHolds
      | _ => v.pendingKinds[st].has k
    else v.pendingKinds[st].has k := by
  rw [reportInterval_eq, reportCondition_has, reportCondition_has, reportCondition_has]
  cases k <;> simp

end

/-- The notices follow the heat decisions, and then the reports, whose kinds no decision touches. -/
theorem IntervalDecided.notices {s v : State} (d : IntervalDecided s v) : NoticesFollow s (reportInterval v) := by
  have untouched (st : Station) {k : AttnKind} (condition : k.isCondition = true) :
      v.pendingKinds[st].has k = s.pendingKinds[st].has k := by
    simp [-Fin.getElem_fin, d.kinds, Lot.heatRaises_of_condition condition]
  have masks := d.raised.masks
  rw [reportInterval_eq]
  refine ((d.raised.notices.report masks (fun st => ?_) _).report (by simpa using masks) (fun st => ?_) _).report
    (by simpa using masks) (fun st => ?_) _
  · exact untouched st rfl
  · rw [reportCondition_has, if_neg nofun]
    exact untouched st rfl
  · rw [reportCondition_has, if_neg nofun, reportCondition_has, if_neg nofun]
    exact untouched st rfl

/-- The kinds that the heat decisions raise, in the terms of the state before the event (R100). -/
theorem any_heatRaises {s : State} (h : HallParts s) (st : Station) (k : AttnKind) :
    (s.lots.any fun l => (l.creditedIn s).heatRaises st k) = (receives st k && match k with
      | .hotHold => s.lots.any (Lot.hotHeldNow s)
      | .claimRevoked => s.lots.any fun l => l.state = .claimed && l.hotHeldNow s
      | _ => false) := by
  have each (l : Lot) (live : l ∈ s.lots) : (l.creditedIn s).heatRaises st k = true
      ↔ l.hotHeldNow s = true
        ∧ (st = supervisorStation ∧ k = .hotHold ∨ l.state = .claimed ∧ st = loadoutStation ∧ k = .claimRevoked) := by
    rw [Lot.heatRaises, Lot.hotHeldNow_eq (h.lots l live), Lot.creditedIn_state]
    simp
  rw [Bool.eq_iff_iff, List.any_eq_true, exists_congr fun l => and_congr_right (each l)]
  cases k with
  | hotHold => by_cases receiver : st = supervisorStation <;> simp [receives, receiver]
  | claimRevoked => by_cases receiver : st = loadoutStation <;> simp [receives, receiver, and_comm]
  | _ => simp

/-! ### The statements -/

/-- R83: each lane's stale mark and its reading's age. -/
theorem judgeLanes_lanes_get (s : State) (b : Bay) : (judgeLanes s).lanes[b] = { s.lanes[b] with
    stale := (s.handedTemperature b).isNone
    reading := s.lanes[b].reading.map fun r => { r with age := min 255 (r.age + 1) } } := by
  rw [handedTemperature_eq, ← Lane.staleAt_eq]
  simp only [judgeLanes, Fin.getElem_fin, Vector.getElem_ofFn]
  rfl

/-- What the decisions and any reports after them leave is the credit of the statement. -/
theorem IntervalDecided.credited {s v t : State} (d : IntervalDecided s v) (reported : ClaimsChange v t)
    (lots : t.lots = v.lots) : IntervalCredited s t := by
  have change : ClaimsChange _ t := d.change.trans reported
  rw [ClaimsChange] at change
  have plantMinute : t.plantMinute = (raisePlantMinute s).plantMinute := by rw [change]
  have lanes : t.lanes = (judgeLanes s).lanes := by rw [change]
  exact
    { plantMinute := plantMinute
      lanes := fun b => by
        simp only [lanes]
        exact judgeLanes_lanes_get s b
      lots := lots.trans d.lots
      others := by
        rw [plantMinute, lanes]
        exact change }

theorem IntervalDecided.handedOver {s v : State} (d : IntervalDecided s v) (h : HallParts s) :
    IntervalHandedOver s (reportInterval v) where
  queue := (reportInterval_queue v).trans d.queue
  claims := (reportInterval_claims v).trans d.claims
  kinds st k := by
    have lanes : (reportInterval v).anyStale = v.anyStale := by rw [State.anyStale, reportInterval_lanes, State.anyStale]
    rw [reportInterval_has, d.kinds, any_heatRaises h, reportInterval_lots, lanes, reportInterval_queue]
    by_cases receiver : receives st k = true
    · rw [if_pos receiver, if_pos receiver, receiver]
      cases k <;> simp [State.anyOverdue, State.queueHolds]
    · rw [if_neg receiver, if_neg receiver]
      simp [receiver]
  notices := d.notices

/-- INTERVAL_EVENT at a sixtieth second whose interval event is still to come (R89, R105). -/
theorem exec_intervalEvent_of_due {s : State} (serving : s.phase = .inService) (sixtieth : s.secondInMinute = 59)
    (untaken : s.intervalTaken = false) : exec .intervalEvent s = .next { takeInterval s with intervalTaken := true } := by
  rw [exec, execIntervalEvent, if_pos (by simp [serving, State.sixtiethNext, sixtieth, untaken])]

theorem exec_intervalEvent_of_idle {s : State} (idle : s.secondInMinute < 59 ∨ s.intervalTaken = true) :
    exec .intervalEvent s = .next s := by
  rw [exec, execIntervalEvent, if_neg]
  simp only [State.sixtiethNext, Bool.and_eq_true, decide_eq_true_eq, Bool.not_eq_true']
  rintro ⟨⟨-, sixtieth⟩, untaken⟩
  rcases idle with early | taken
  · omega
  · exact absurd (taken.symm.trans untaken) nofun

/-- Settles O27: the lots are judged one after another, each once, and the row takes that event when it is due. -/
theorem intervalCreditsLots : Obligations.IntervalCreditsLots := by
  refine ⟨fun s hall => ?_, fun _ => exec_intervalEvent_of_due, fun _ _ => exec_intervalEvent_of_idle⟩
  rw [takeInterval_eq]
  exact (intervalDecided (hallParts_iff.2 hall)).credited (reportInterval_change _) (reportInterval_lots _)

/-- Settles O28: the queue, the claims and the latched kinds follow the decisions lot after lot, the conditions the reports at the
end. -/
theorem intervalHandsOver : Obligations.IntervalHandsOver := by
  intro s hall
  have law := hallParts_iff.2 hall
  rw [takeInterval_eq]
  exact (intervalDecided law).handedOver law

end Sys2Proof.Machine
end

section
/-! ## The loadout terminal's CLNX, CNFM and RTRN (R110 to R117, R121, R122) -/

namespace Sys2Proof.Machine

open Sys2Proof

/-- The loadout terminal's command that is taken at once is answered as its owner's taking has it. -/
theorem loadout_answered {c : CommandCode} {s : State} (h : TakesAtOnce loadoutStation s) {args : List Byte}
    (fits : argsFit args = true) (permitted : c.permits .loadout = true) {t : Taken}
    (taken : deliver c loadoutStation args s = t) :
    arriveCommand c loadoutStation args s = placeAnswer loadoutStation c.byte t := by
  rw [arriveCommand_of_takesAtOnce h fits permitted, taken, placeAnswer_eq]

section
variable {s : State} (h : TakesAtOnce loadoutStation s) {args : List Byte} (fits : argsFit args = true)
include h fits

theorem exec_clnx : exec (.clnx 5 args) s = .next (placeAnswer 5 0x30 (takeClnx args s)) :=
  congrArg Host.Outcome.next (loadout_answered (c := .clnx) h fits rfl rfl)

theorem exec_cnfm : exec (.cnfm 5 args) s = .next (placeAnswer 5 0x31 (takeCnfm args s)) :=
  congrArg Host.Outcome.next (loadout_answered (c := .cnfm) h fits rfl rfl)

theorem exec_rtrn : exec (.rtrn 5 args) s = .next (placeAnswer 5 0x32 (takeRtrn args s)) :=
  congrArg Host.Outcome.next (loadout_answered (c := .rtrn) h fits rfl rfl)

end

/-! ### CLNX -/

theorem truck?_of_short {args : List Byte} (short : args.length < 2) : truck? args = none := by
  unfold truck?
  split
  · simp only [List.length_cons] at short
    omega
  · rfl

section
variable {args : List Byte} {s : State}

theorem takeClnx_of_short (short : args.length < 2) : takeClnx args s = refuse .badArgument s := by
  simp [takeClnx, truck?_of_short short]

variable {truck : Nat} (given : truck? args = some truck)
include given

theorem takeClnx_of_noTruck (zero : truck = 0) : takeClnx args s = refuse .badArgument s := by
  simp [takeClnx, given, zero]

variable (some_truck : truck ≠ 0)
include some_truck

theorem takeClnx_of_noLot (empty : s.queue = []) : takeClnx args s = refuse .queueEmpty s := by
  simp [takeClnx, given, some_truck, empty]

variable {serial : Nat} {behind : List Nat} (head : s.queue = serial :: behind)
include head

theorem takeClnx_of_full (full : 4 ≤ s.claims.length) : takeClnx args s = refuse .claimLimit s := by
  simp [takeClnx, given, some_truck, head, Config.maxClaims, full]

variable (room : s.claims.length < 4)
include room

theorem takeClnx_of_busy (busy : ∃ c ∈ s.claims, c.truck = truck) : takeClnx args s = refuse .truckBusy s := by
  simp [takeClnx, given, some_truck, head, Config.maxClaims, Nat.not_le.2 room, busy]

theorem takeClnx_of_lot (free : ∀ c ∈ s.claims, c.truck ≠ truck) {l : Lot} (found : s.lot? serial = some l) :
    takeClnx args s = accept (.claimed serial l.bay l.margin) (claimHead serial truck s) := by
  have idle : s.claims.any (fun c => c.truck = truck) = false := by simpa using free
  simp [takeClnx, given, some_truck, head, Config.maxClaims, Nat.not_le.2 room, idle, found]

end

theorem Lot.bay_of_place {l : Lot} {p : Place} (at_p : l.place = some p) : l.bay = p.bay := by simp [Lot.bay, at_p]

/-- The claim of the queue's head in one record update, reported (R113, R124). -/
theorem claimHead_eq {s : State} {serial : Nat} {behind : List Nat} (head : s.queue = serial :: behind) (truck : Nat) :
    claimHead serial truck s = reportCondition .queueReady (!behind.isEmpty) { s with
      queue := behind
      lots := s.lots.map fun x => if x.serial = serial then { x with state := .claimed } else x
      claims := s.claims ++ [⟨serial, truck, s.claimTimeout⟩] } := by
  simp only [claimHead, reportQueue, State.queueHolds, head, List.tail_cons]
  rfl

/-- Settles O29: the taking of CLNX, check by check in the order of Table 7–2, answered at once. -/
theorem clnxClaimsTheHead : Obligations.ClnxClaimsTheHead := by
  intro args s atOnce fits
  rw [exec_clnx atOnce fits]
  refine ⟨fun short => ?_, fun truck given => ⟨fun zero => ?_, fun some_truck => ⟨fun empty => ?_, fun serial behind head =>
    ⟨fun full => ?_, fun room busy => ?_, fun room free l p found at_p => ?_⟩⟩⟩⟩
  · rw [takeClnx_of_short short]
    rfl
  · rw [takeClnx_of_noTruck given zero]
    rfl
  · rw [takeClnx_of_noLot given some_truck empty]
    rfl
  · rw [takeClnx_of_full given some_truck head full]
    rfl
  · rw [takeClnx_of_busy given some_truck head room busy]
    rfl
  · rw [takeClnx_of_lot given some_truck head room free found, Lot.bay_of_place at_p, claimHead_eq head]
    rfl

/-! ### CNFM -/

theorem confirmation?_of_short {args : List Byte} (short : args.length < 7) : confirmation? args = none := by
  unfold confirmation?
  split
  · simp only [List.length_cons] at short
    omega
  · rfl

theorem confirmation?_truck_le {args : List Byte} {q : Confirmation} (given : confirmation? args = some q) : q.truck ≤ 65535 := by
  unfold confirmation? at given
  split at given
  · obtain rfl := Option.some.inj given
    exact beNat_pair_le _ _
  · exact absurd given nofun

theorem claimedBy_iff {l : Lot} {truck : Nat} {s : State} : claimedBy l truck s = true ↔
    l.state = .claimed ∧ ∃ c ∈ s.claims, c.serial = l.serial ∧ c.truck = truck := by
  simp [claimedBy]

section
variable {args : List Byte} {s : State}

theorem takeCnfm_of_short (short : args.length < 7) : takeCnfm args s = refuse .badArgument s := by
  simp [takeCnfm, confirmation?_of_short short]

variable {q : Confirmation} (given : confirmation? args = some q)
include given

theorem takeCnfm_of_outside (outside : q.truck = 0 ∨ 40000 < q.netMass) : takeCnfm args s = refuse .badArgument s := by
  simp [takeCnfm, given, outside]

variable (some_truck : q.truck ≠ 0) (mass : q.netMass ≤ 40000)
include some_truck mass

theorem takeCnfm_of_unknown (unknown : s.lot? q.serial = none) : takeCnfm args s = refuse .unknownLot s := by
  simp [takeCnfm, given, some_truck, Nat.not_lt.2 mass, unknown]

variable {l : Lot} (found : s.lot? q.serial = some l)
include found

theorem takeCnfm_of_unclaimed (unclaimed : claimedBy l q.truck s = false) : takeCnfm args s = refuse .notClaimed s := by
  simp [takeCnfm, given, some_truck, Nat.not_lt.2 mass, found, unclaimed]

theorem takeCnfm_of_claimed (claimed : claimedBy l q.truck s = true) : takeCnfm args s
    = accept (.confirmed q.serial (confirmLot l q.truck q.netMass s).releaseLog.length) (confirmLot l q.truck q.netMass s) := by
  simp [takeCnfm, given, some_truck, Nat.not_lt.2 mass, found, claimed]

end

@[simp] theorem confirmLot_releaseLog (l : Lot) (truck netMass : Nat) (s : State) : (confirmLot l truck netMass s).releaseLog
    = appendRecord s.releaseLog (releaseRecord l truck netMass s.plantMinute) := by
  simp [confirmLot]

/-- Settles O30: the taking of CNFM, check by check in the order of Table 7–3, answered at once; the record's values are those of the
lot (R121). -/
theorem cnfmReleasesTheLot : Obligations.CnfmReleasesTheLot := by
  intro args s atOnce fits
  rw [exec_cnfm atOnce fits]
  refine ⟨fun short => ?_, fun q given => ⟨fun outside => ?_, fun some_truck mass => ⟨fun unknown => ?_, fun l found =>
    ⟨fun unclaimed => ?_, fun state claim room p at_p log logged => ?_⟩⟩⟩⟩
  · rw [takeCnfm_of_short short]
    rfl
  · rw [takeCnfm_of_outside given outside]
    rfl
  · rw [takeCnfm_of_unknown given some_truck mass unknown]
    rfl
  · obtain ⟨-, serial⟩ := mem_of_lot? s found
    have refused : claimedBy l q.truck s = false := by
      rw [Bool.eq_false_iff, Ne, claimedBy_iff, serial]
      rintro ⟨state, c, mem, names, by_truck⟩
      exact unclaimed.elim (· state) (· c mem names by_truck)
    rw [takeCnfm_of_unclaimed given some_truck mass found refused]
    rfl
  · obtain ⟨-, serial⟩ := mem_of_lot? s found
    have appended : appendRecord s.releaseLog (releaseRecord l q.truck q.netMass s.plantMinute) = log := by
      rw [appendRecord_eq room, logged, releaseRecord, Lot.bay_of_place at_p, at_p, serial]
    rw [takeCnfm_of_claimed given some_truck mass found (claimedBy_iff.2 ⟨state, serial ▸ claim⟩), confirmLot_releaseLog, confirmLot,
      appended, Lot.bay_of_place at_p, serial]
    rfl

/-! ### RTRN -/

theorem serial?_of_short {args : List Byte} (short : args.length < 3) : serial? args = none := by
  unfold serial?
  split
  · simp only [List.length_cons] at short
    omega
  · rfl

section
variable {args : List Byte} {s : State}

theorem takeRtrn_of_short (short : args.length < 3) : takeRtrn args s = refuse .badArgument s := by
  simp [takeRtrn, serial?_of_short short]

variable {serial : Nat} (given : serial? args = some serial)
include given

theorem takeRtrn_of_unknown (unknown : s.lot? serial = none) : takeRtrn args s = refuse .unknownLot s := by
  simp [takeRtrn, given, unknown]

variable {l : Lot} (found : s.lot? serial = some l)
include found

theorem takeRtrn_of_unclaimed (unclaimed : l.state ≠ .claimed) : takeRtrn args s = refuse .notClaimed s := by
  simp [takeRtrn, given, found, unclaimed]

theorem takeRtrn_of_claimed (claimed : l.state = .claimed) : takeRtrn args s
    = accept (.returned serial (reportQueue (returnClaim serial s)).queue.length) (reportQueue (returnClaim serial s)) := by
  simp [takeRtrn, given, found, claimed]

end

/-- A returned claim leaves a lot in the queue, which is reported (R117, R124). -/
theorem reportQueue_returnClaim (serial : Nat) (s : State) :
    reportQueue (returnClaim serial s) = reportCondition .queueReady true (returnClaim serial s) := rfl

/-- Settles O31: the taking of RTRN, check by check, answered at once. -/
theorem rtrnReturnsTheClaim : Obligations.RtrnReturnsTheClaim := by
  intro args s atOnce fits
  rw [exec_rtrn atOnce fits]
  refine ⟨fun short => ?_, fun serial given => ⟨fun unknown => ?_, fun l found => ⟨fun unclaimed => ?_, fun claimed => ?_⟩⟩⟩
  · rw [takeRtrn_of_short short]
    rfl
  · rw [takeRtrn_of_unknown given unknown]
    rfl
  · rw [takeRtrn_of_unclaimed given found unclaimed]
    rfl
  · rw [takeRtrn_of_claimed given found claimed, reportQueue_returnClaim, returnClaim_eq]
    rfl

end Sys2Proof.Machine
end

section
/-! ## QREL (R123, R146) -/

namespace Sys2Proof.Machine

open Sys2Proof

/-- A QREL that is taken at once answers and changes nothing else. -/
theorem exec_qrel {st : Station} {s : State} (permitted : st = loadoutStation ∨ st = supervisorStation) (h : TakesAtOnce st s)
    {args : List Byte} (fits : argsFit args = true) :
    exec (.qrel st args) s = .next (answered st 0x61 (takeQrel args s).status (takeQrel args s).results s) := by
  have role : CommandCode.qrel.permits (roleOf st) = true := by rcases permitted with rfl | rfl <;> rfl
  have arrived : arriveCommand .qrel st args s
      = answered st 0x61 (takeQrel args s).status (takeQrel args s).results (takeQrel args s).state :=
    arriveCommand_of_takesAtOnce h fits role
  rw [takeQrel_state] at arrived
  exact congrArg Host.Outcome.next arrived

theorem recordPage?_of_short {args : List Byte} (short : args.length < 2) : recordPage? args = none := by
  unfold recordPage?
  split
  · simp only [List.length_cons] at short
    omega
  · simp at short
  · rfl

section
variable {args : List Byte} {s : State}

theorem takeQrel_of_short (short : args.length < 2) : takeQrel args s = refuse .badArgument s := by
  simp [takeQrel, recordPage?_of_short short]

variable {k page part : Nat} (given : recordPage? args = some (k, page, part))
include given

theorem takeQrel_of_noPart (noPart : 3 < page ∨ 1 < part) : takeQrel args s = refuse .badArgument s := by
  simp [takeQrel, given, noPart]

variable (known_page : page ≤ 3) (known_part : part ≤ 1)
include known_page known_part

theorem takeQrel_of_noRecord (beyond : s.releaseLog.length ≤ k) : takeQrel args s = refuse .noRecord s := by
  simp [takeQrel, given, Nat.not_lt.2 known_page, Nat.not_lt.2 known_part, beyond]

theorem takeQrel_of_record (held : k < s.releaseLog.length) {r : ReleaseRecord}
    (found : s.releaseLog[s.releaseLog.length - 1 - k]? = some r) : takeQrel args s = accept (recordPart page part r) s := by
  simp [takeQrel, given, Nat.not_lt.2 known_page, Nat.not_lt.2 known_part, List.getElem?_reverse held, found]

end

/-- Settles O32: the taking of QREL, check by check, answered at once. -/
theorem qrelReadsTheLog : Obligations.QrelReadsTheLog := by
  intro st args s permitted atOnce fits
  rw [exec_qrel permitted atOnce fits]
  refine ⟨fun short => ?_, fun k page part given => ⟨fun noPart => ?_, fun known_page known_part => ⟨fun beyond => ?_,
    fun r held found results laid_out => ?_⟩⟩⟩
  · rw [takeQrel_of_short short]
    rfl
  · rw [takeQrel_of_noPart given noPart]
    rfl
  · rw [takeQrel_of_noRecord given known_page known_part beyond]
    rfl
  · rw [takeQrel_of_record given known_page known_part held found, laid_out]
    rfl

end Sys2Proof.Machine
end

section
/-! ## The laws of the hall at every step, event by event -/

namespace Sys2Proof.Machine

open Sys2Proof

theorem LinkChange.same {s t : State} (change : LinkChange s t) : SameHall s t := by
  rw [change]
  exact {}

/-- What each taking and event does to the hall, as `StepKept` asks it: a law of another block that rests on the hall is shown together
with these. -/
theorem hall_stepKept : StepKept HallParts where
  link change h := change.same.hallParts h
  taken c st args s h := (deliver_follows c st args s h).1
  second _ h := (takeSecond_ages _ h).1
  window n s _ h := (expireWindow_ages n s h).1
  claims _ h := (expireClaims_ages _ h).1
  interval _ h := ((takeInterval_ages _).then_same {} h).1
  haltInput _ _ h := SameHall.hallParts {} h
  halt level s _ h := ((same_registerHalt s level).trans (same_reportHalt _)).hallParts h
  begins cause s h := (same_beginStart s cause).hallParts h
  completes _ h := (completeStart_ages _ h).1
  fails _ h := SameHall.hallParts {} h
  resets h := (same_stopPart _ .heldReset).hallParts h
  powerLoss h := ((same_stopPart _ .unpowered).trans (same_loseUnretained _)).hallParts h
  latch _ h := SameHall.hallParts {} h

end Sys2Proof.Machine
end

section
/-! ## The law of the release log (R121, R173)

A confirmation appends the record of a CLAIMED lot, for which the laws of the hall vouch, and a cold start empties the log. Nothing else
changes it. -/

namespace Sys2Proof.Machine

open Sys2Proof

theorem LogLaw.of_log {s t : State} (h : LogLaw s) (same : t.releaseLog = s.releaseLog) : LogLaw t where
  atMost := same ▸ h.atMost
  records := same ▸ h.records

theorem logLaw_of_nil {s : State} (empty : s.releaseLog = []) : LogLaw s := by
  constructor <;> simp [empty]

/-! ### The confirmation -/

/-- R173: the record of a CLAIMED lot is a good one, for a truck and a net mass that CNFM takes. -/
theorem LotLaw.recordLaw {l : Lot} (h : LotLaw l) (claimed : l.state = .claimed) {truck netMass : Nat}
    (truck_range : 1 ≤ truck ∧ truck ≤ 65535) (mass : netMass ≤ 40000) (minute : Nat) :
    RecordLaw (releaseRecord l truck netMass minute) where
  cured := by
    have criteria := h.cured (.inr claimed)
    simp only [Lot.meetsCriteria, Bool.and_eq_true, decide_eq_true_eq] at criteria
    exact criteria.1
  interrupted := h.interrupted
  extended := h.extended
  wet := h.wet
  truck := truck_range
  netMass := mass

theorem mem_appendRecord {log : List ReleaseRecord} {r x : ReleaseRecord} (mem : x ∈ appendRecord log r) : x ∈ log ∨ x = r := by
  simpa using List.mem_of_mem_drop mem

/-- R121: a good record appended leaves a good log. -/
theorem LogLaw.append {s t : State} (h : LogLaw s) {r : ReleaseRecord} (good : RecordLaw r)
    (appended : t.releaseLog = appendRecord s.releaseLog r) : LogLaw t where
  atMost := by
    rw [appended, appendRecord_length h.atMost]
    exact Nat.min_le_left _ _
  records x mem := by
    rw [appended] at mem
    obtain old | rfl := mem_appendRecord mem
    · exact h.records x old
    · exact good

theorem takeCnfm_logLaw {s : State} (hall : HallParts s) (h : LogLaw s) (args : List Byte) : LogLaw (takeCnfm args s).state := by
  fun_cases takeCnfm args s
  case case4 q given inside l found claimed _ =>
    obtain ⟨state, -⟩ := claimedBy_iff.1 claimed
    obtain ⟨mem, -⟩ := mem_of_lot? s found
    simp only [Bool.or_eq_true, decide_eq_true_eq, not_or, Nat.not_lt] at inside
    obtain ⟨some_truck, mass⟩ := inside
    have good := (hall.lots l mem).recordLaw state ⟨Nat.pos_of_ne_zero some_truck, confirmation?_truck_le given⟩ mass s.plantMinute
    exact h.append good (confirmLot_releaseLog l _ _ s)
  all_goals exact h

/-! ### The other takings -/

section
variable (s : State)

theorem takeReading_releaseLog (b : Bay) (t : Int) : (takeReading b t s).releaseLog = s.releaseLog := by
  fun_cases takeReading b t s <;> simp

theorem doseWith_releaseLog (n : Line) (q : DoseRequest) (k : RecipeNo) : (doseWith n q k s).state.releaseLog = s.releaseLog := by
  unfold doseWith
  dsimp only
  split <;> simp [openDose]

theorem unholdLot_releaseLog (l : Lot) : (unholdLot l s).releaseLog = s.releaseLog := by
  unfold unholdLot
  dsimp only
  split_ifs <;> simp

theorem rejectLot_releaseLog (l : Lot) : (rejectLot l s).releaseLog = s.releaseLog := by
  unfold rejectLot
  dsimp only
  split_ifs <;> simp

theorem extendLot_releaseLog (l : Lot) (minutes : Nat) : (extendLot l minutes s).releaseLog = s.releaseLog := by
  unfold extendLot
  dsimp only
  split_ifs <;> simp

/-- SPAR of any parameter sets a limit, a capacity or a time of its own. -/
theorem takeSpar_releaseLog (args : List Byte) : (takeSpar args s).state.releaseLog = s.releaseLog := by
  fun_cases takeSpar args s
  case case2 index value _ => fun_cases takeCementMax index value s <;> rfl
  case case3 index value _ => fun_cases takeWaterMax index value s <;> rfl
  case case4 index value _ => fun_cases takeAdditiveMax index value s <;> rfl
  case case5 index value _ => fun_cases takeStaleLimit index value s <;> rfl
  case case6 index value _ => fun_cases takeBayCapacity index value s <;> rfl
  case case7 index value _ => fun_cases takeClaimTimeout index value s <;> rfl
  all_goals rfl

/-- No command but CNFM changes the log. -/
theorem deliver_releaseLog {c : CommandCode} (other : c ≠ .cnfm) (st : Station) (args : List Byte) :
    (deliver c st args s).state.releaseLog = s.releaseLog := by
  cases c <;> unfold deliver <;> dsimp only
  case cnfm => exact absurd rfl other
  case dosq => fun_cases takeDosq (lineOf st) args s <;> simp [doseWith_releaseLog]
  case dsch => fun_cases takeDsch (lineOf st) args s <;> simp
  case abdn => fun_cases takeAbdn (lineOf st) s <;> simp
  case tmpr => fun_cases takeTmpr args s <;> simp [takeReading_releaseLog]
  case clnx => fun_cases takeClnx args s <;> simp [claimHead]
  case rtrn => fun_cases takeRtrn args s <;> simp +zetaDelta
  case hold => fun_cases takeHold args s <;> simp [holdLot, holdClaimed]
  case unhd => fun_cases takeUnhd args s <;> simp +zetaDelta [unholdLot_releaseLog]
  case rjct => fun_cases takeRjct args s <;> simp [rejectLot_releaseLog]
  case clrb => fun_cases takeClrb args s <;> simp
  case extd => fun_cases takeExtd args s <;> simp [extendLot_releaseLog]
  case lock => unfold takeLock; fun_cases takeLaneLock true args s <;> rfl
  case ulck => unfold takeUlck; fun_cases takeLaneLock false args s <;> rfl
  case rcpw => fun_cases takeRcpw args s <;> rfl
  case rcpe => fun_cases takeRcpe args s <;> rfl
  case rcpd => fun_cases takeRcpd args s <;> rfl
  case rcpr => fun_cases takeRcpr args s <;> rfl
  case stim => fun_cases takeStim args s <;> simp [zeroTimeBase, setPlantMinute]
  case spar => exact takeSpar_releaseLog s args
  case qlot => rw [takeQlot_state]
  case qrel => rw [takeQrel_state]
  case atcl => fun_cases takeAtcl st args s <;> rfl
  case atmk => fun_cases takeAtmk st args s <;> rfl
  case atrd | qlin | rstw | rstc => rfl

end

theorem deliver_logLaw {s : State} (hall : HallParts s) (h : LogLaw s) (c : CommandCode) (st : Station) (args : List Byte) :
    LogLaw (deliver c st args s).state := by
  by_cases confirms : c = .cnfm
  · subst confirms
    exact takeCnfm_logLaw hall h args
  · exact h.of_log (deliver_releaseLog s confirms st args)

/-! ### The time base and the starts -/

section
variable (s : State)

theorem expireWindow_releaseLog (n : Line) : (expireWindow n s).releaseLog = s.releaseLog := by
  fun_cases expireWindow n s <;> rfl

theorem runWindow_releaseLog (n : Line) : (runWindow n s).releaseLog = s.releaseLog := by
  fun_cases runWindow n s <;> simp [expireWindow_releaseLog]

theorem runWindows_releaseLog : (runWindows s).releaseLog = s.releaseLog := by simp only [runWindows, runWindow_releaseLog]

theorem expireClaims_releaseLog : (expireClaims s).releaseLog = s.releaseLog := by
  rw [expireClaims, reportQueue_releaseLog, foldr_expireClaim_change s]

theorem runClaims_releaseLog : (runClaims s).releaseLog = s.releaseLog := by
  by_cases running : s.claims.filter Claim.ends = []
  · rw [runClaims_of_running running]
    rfl
  · rw [runClaims_of_due running]
    exact expireClaims_releaseLog s

variable {s}

theorem takeInterval_releaseLog (hall : HallParts s) : (takeInterval s).releaseLog = s.releaseLog := by
  rw [(intervalCreditsLots.1 s (hallParts_iff.1 hall)).others]

theorem takeSecond_releaseLog (hall : HallParts s) : (takeSecond s).releaseLog = s.releaseLog := by
  have counted : SameHall s (countSecond s) := {}
  have run_hall : HallParts (runClaims (runWindows (countSecond s))) :=
    (runClaims_ages _ (runWindows_ages _ (counted.hallParts hall)).1).1
  have run_log : (runClaims (runWindows (countSecond s))).releaseLog = s.releaseLog := by
    rw [runClaims_releaseLog, runWindows_releaseLog]
    rfl
  fun_cases takeSecond s
  case case1 => exact (takeInterval_releaseLog run_hall).trans run_log
  case case2 => exact run_log

/-- R169: a warm start keeps the log, and a cold start empties it. -/
theorem completeStart_logLaw (h : LogLaw s) : LogLaw (completeStart s) := by
  refine LogLaw.of_log ?_ (completeStart_retained s).releaseLog
  fun_cases startActions s
  case case1 => exact logLaw_of_nil rfl
  case case2 => exact h.of_log rfl

end

/-! ### Every step -/

theorem hallAndLog_stepKept : StepKept fun s => HallParts s ∧ LogLaw s where
  link change := fun ⟨hall, h⟩ => ⟨hall_stepKept.link change hall, h.of_log (by rw [change])⟩
  taken c st args _ := fun ⟨hall, h⟩ => ⟨hall_stepKept.taken c st args hall, deliver_logLaw hall h c st args⟩
  second serving := fun ⟨hall, h⟩ => ⟨hall_stepKept.second serving hall, h.of_log (takeSecond_releaseLog hall)⟩
  window n _ serving := fun ⟨hall, h⟩ => ⟨hall_stepKept.window n serving hall, h.of_log (expireWindow_releaseLog _ n)⟩
  claims serving := fun ⟨hall, h⟩ => ⟨hall_stepKept.claims serving hall, h.of_log (expireClaims_releaseLog _)⟩
  interval serving := fun ⟨hall, h⟩ => ⟨hall_stepKept.interval serving hall, h.of_log (takeInterval_releaseLog hall)⟩
  haltInput raw timing := fun ⟨hall, h⟩ => ⟨hall_stepKept.haltInput raw timing hall, h.of_log rfl⟩
  halt level _ serving := fun ⟨hall, h⟩ => ⟨hall_stepKept.halt level serving hall, h.of_log (reportHalt_releaseLog _)⟩
  begins cause _ := fun ⟨hall, h⟩ => ⟨hall_stepKept.begins cause hall, h.of_log rfl⟩
  completes starting := fun ⟨hall, h⟩ => ⟨hall_stepKept.completes starting hall, completeStart_logLaw h⟩
  fails starting := fun ⟨hall, h⟩ => ⟨hall_stepKept.fails starting hall, h.of_log rfl⟩
  resets := fun ⟨hall, h⟩ => ⟨hall_stepKept.resets hall, h.of_log rfl⟩
  powerLoss := fun ⟨hall, h⟩ => ⟨hall_stepKept.powerLoss hall, h.of_log rfl⟩
  latch unpowered := fun ⟨hall, h⟩ => ⟨hall_stepKept.latch unpowered hall, h.of_log rfl⟩

/-- Settles O57: only a confirmation appends to the log, and its record shows what the laws of the hall say of the lot. -/
theorem stepsKeepTheLog : Obligations.StepsKeepTheLog := by
  intro s t hall log next
  exact (hallAndLog_stepKept.step next ⟨hallParts_iff.2 hall, log⟩).2

end Sys2Proof.Machine
end

section
/-! ## The supervisor's interventions HOLD, UNHD, RJCT, CLRB and EXTD (R127 to R138) -/

namespace Sys2Proof.Machine

open Sys2Proof

section
variable {s : State} (h : TakesAtOnce supervisorStation s) {args : List Byte} (fits : argsFit args = true)
include h fits

theorem exec_hold : exec (.hold 6 args) s = .next (placeAnswer 6 0x40 (takeHold args s)) :=
  congrArg Host.Outcome.next (supervisor_answered (c := .hold) h fits rfl rfl)

theorem exec_unhd : exec (.unhd 6 args) s = .next (placeAnswer 6 0x41 (takeUnhd args s)) :=
  congrArg Host.Outcome.next (supervisor_answered (c := .unhd) h fits rfl rfl)

theorem exec_rjct : exec (.rjct 6 args) s = .next (placeAnswer 6 0x42 (takeRjct args s)) :=
  congrArg Host.Outcome.next (supervisor_answered (c := .rjct) h fits rfl rfl)

theorem exec_clrb : exec (.clrb 6 args) s = .next (placeAnswer 6 0x43 (takeClrb args s)) :=
  congrArg Host.Outcome.next (supervisor_answered (c := .clrb) h fits rfl rfl)

theorem exec_extd : exec (.extd 6 args) s = .next (placeAnswer 6 0x44 (takeExtd args s)) :=
  congrArg Host.Outcome.next (supervisor_answered (c := .extd) h fits rfl rfl)

end

theorem Lot.atFront_iff_position {l : Lot} : l.atFront = true ↔ l.place.map (·.position) = some 0 := by
  simp only [Lot.atFront_iff, Option.map_eq_some_iff]

/-- A lot that joins the queue leaves it with a member, which is reported (R108, R124). -/
theorem reportQueue_joinTail {serial : Nat} {s : State} (outside : serial ∉ s.queue) : reportQueue (joinTail serial s)
    = reportCondition .queueReady true { s with queue := s.queue ++ [serial] } := by
  have queued : State.queueHolds { s with queue := s.queue ++ [serial] } = true := by simp [State.queueHolds]
  rw [joinTail, if_neg outside, reportQueue, queued]

/-! ### HOLD -/

section
variable {args : List Byte} {s : State}

theorem takeHold_of_short (short : args.length < 3) : takeHold args s = refuse .badArgument s := by
  simp only [takeHold, serial?_of_short short]

variable {serial : Nat} (given : serial? args = some serial)
include given

theorem takeHold_of_unknown (unknown : s.lot? serial = none) : takeHold args s = refuse .unknownLot s := by
  simp only [takeHold, given, unknown]

variable {l : Lot} (found : s.lot? serial = some l)
include found

theorem takeHold_of_wrongState (wrong : l.state = .dosed ∨ l.state = .void ∨ l.state = .rejected) :
    takeHold args s = refuse .wrongState s := by
  rcases wrong with state | state | state <;> simp only [takeHold, given, found, state]

theorem takeHold_of_held (holdable : l.state = .curing ∨ l.state = .overdue ∨ l.state = .cured) {reason : HoldReason}
    (held : l.hold = some reason) : takeHold args s = accept (.held serial l.state (some reason)) s := by
  rcases holdable with state | state | state <;> simp only [takeHold, given, found, state, held]

theorem takeHold_of_unheld (holdable : l.state = .curing ∨ l.state = .overdue ∨ l.state = .cured) (unheld : l.hold = none) :
    takeHold args s = accept (.held serial l.state (some .supervisor)) (holdLot serial s) := by
  rcases holdable with state | state | state <;> simp only [takeHold, given, found, state, unheld]

theorem takeHold_of_claimed (claimed : l.state = .claimed) :
    takeHold args s = accept (.held serial .cured (some .supervisor)) (holdClaimed serial s) := by
  simp only [takeHold, given, found, claimed]

end

/-- A hold in one record update, with QUEUE_READY judged again (R109, R128). -/
theorem holdLot_eq (serial : Nat) (s : State) : holdLot serial s
    = reportCondition .queueReady (!(s.queue.filter (· ≠ serial)).isEmpty) { s with
      lots := s.lots.map fun x => if x.serial = serial then { x with hold := some .supervisor } else x
      queue := s.queue.filter (· ≠ serial) } := rfl

/-- The hold of a CLAIMED lot in one record update, before its CLAIM_REVOKED (R119, R129). -/
theorem holdClaimed_eq (serial : Nat) (s : State) : holdClaimed serial s = raise loadoutStation .claimRevoked { s with
    lots := s.lots.map fun x => if x.serial = serial then { x with state := .cured, hold := some .supervisor } else x
    claims := s.claims.filter (·.serial ≠ serial) } := rfl

/-- Settles O34: the taking of HOLD by the lot's state, answered at once. -/
theorem holdHoldsTheLot : Obligations.HoldHoldsTheLot := by
  intro args s atOnce fits
  rw [exec_hold atOnce fits]
  refine ⟨fun short => ?_, fun serial given => ⟨fun unknown => ?_, fun l found => ⟨fun wrong => ?_, fun holdable =>
    ⟨fun reason held => ?_, fun unheld => ?_⟩, fun claimed => ?_⟩⟩⟩
  · rw [takeHold_of_short short]
    rfl
  · rw [takeHold_of_unknown given unknown]
    rfl
  · rw [takeHold_of_wrongState given found wrong]
    rfl
  · rw [takeHold_of_held given found holdable held]
    rfl
  · rw [takeHold_of_unheld given found holdable unheld, holdLot_eq]
    rfl
  · rw [takeHold_of_claimed given found claimed, holdClaimed_eq]
    rfl

/-! ### UNHD -/

section
variable {args : List Byte} {s : State}

theorem takeUnhd_of_short (short : args.length < 3) : takeUnhd args s = refuse .badArgument s := by
  simp only [takeUnhd, serial?_of_short short]

variable {serial : Nat} (given : serial? args = some serial)
include given

theorem takeUnhd_of_unknown (unknown : s.lot? serial = none) : takeUnhd args s = refuse .unknownLot s := by
  simp only [takeUnhd, given, unknown]

variable {l : Lot} (found : s.lot? serial = some l)
include found

theorem takeUnhd_of_wrongState
    (wrong : l.state = .dosed ∨ l.state = .void ∨ l.state = .claimed ∨ l.state = .rejected ∨ l.hold = none) :
    takeUnhd args s = refuse .wrongState s := by
  simp only [takeUnhd, given, found]
  rcases wrong with state | state | state | state | unheld
  case inr.inr.inr.inr =>
    simp only [unheld]
    cases l.state <;> rfl
  all_goals simp only [state]

theorem takeUnhd_of_held (held : l.hold ≠ none) (holdable : l.state = .curing ∨ l.state = .overdue ∨ l.state = .cured) :
    takeUnhd args s = accept (.unheld serial l.state (unholdLot l s).queue.length) (unholdLot l s) := by
  obtain ⟨reason, held⟩ := Option.ne_none_iff_exists'.1 held
  rcases holdable with state | state | state <;> simp only [takeUnhd, given, found, state, held]

end

section
variable {l : Lot} {s : State}

/-- The end of a hold that brings no lot to the queue, in one record update (R130). -/
theorem unholdLot_of_unready (unready : l.state ≠ .cured ∨ l.atFront = false) : unholdLot l s = { s with
    lots := s.lots.map fun x => if x.serial = l.serial then { x with hold := none } else x } := by
  have stays : ¬ (decide (l.state = .cured) && l.atFront) = true := by
    rcases unready with state | behind <;> simp [*]
  simp only [unholdLot, if_neg stays]
  rfl

/-- The end of the hold of a CURED front lot in one record update, with QUEUE_READY judged again (R108, R130). -/
theorem unholdLot_of_ready (cured : l.state = .cured) (front : l.atFront = true) (outside : l.serial ∉ s.queue) :
    unholdLot l s = reportCondition .queueReady true { s with
      lots := s.lots.map fun x => if x.serial = l.serial then { x with hold := none } else x
      queue := s.queue ++ [l.serial] } := by
  simp only [unholdLot, cured, front, decide_true, Bool.and_true, if_true]
  exact reportQueue_joinTail outside

end

/-- Settles O35: the taking of UNHD, check by check, answered at once; a CURED lot at the front of its lane joins the queue. -/
theorem unhdReleasesTheHold : Obligations.UnhdReleasesTheHold := by
  intro args s atOnce fits
  rw [exec_unhd atOnce fits]
  refine ⟨fun short => ?_, fun serial given => ⟨fun unknown => ?_, fun l found => ⟨fun wrong => ?_, fun held outside =>
    ⟨fun unready => ?_, fun cured front => ?_⟩⟩⟩⟩
  · rw [takeUnhd_of_short short]
    rfl
  · rw [takeUnhd_of_unknown given unknown]
    rfl
  · rw [takeUnhd_of_wrongState given found wrong]
    rfl
  · obtain ⟨-, rfl⟩ := mem_of_lot? s found
    have holdable : l.state = .curing ∨ l.state = .overdue ∨ l.state = .cured := unready.imp_right (.imp_right And.left)
    have stays : l.state ≠ .cured ∨ l.atFront = false := by
      rcases unready with state | state | ⟨-, behind⟩
      · simp [state]
      · simp [state]
      · exact .inr (Bool.eq_false_iff.2 (mt Lot.atFront_iff_position.1 behind))
    rw [takeUnhd_of_held given found held holdable, unholdLot_of_unready stays]
    rfl
  · obtain ⟨-, rfl⟩ := mem_of_lot? s found
    have absent : l.serial ∉ s.queue := by simpa using outside
    rw [takeUnhd_of_held given found held (.inr (.inr cured)),
      unholdLot_of_ready cured (Lot.atFront_iff_position.2 front) absent, cured, reportCondition_queue, List.length_append]
    rfl

/-! ### RJCT -/

section
variable {args : List Byte} {s : State}

theorem takeRjct_of_short (short : args.length < 3) : takeRjct args s = refuse .badArgument s := by
  simp only [takeRjct, serial?_of_short short]

variable {serial : Nat} (given : serial? args = some serial)
include given

theorem takeRjct_of_unknown (unknown : s.lot? serial = none) : takeRjct args s = refuse .unknownLot s := by
  simp only [takeRjct, given, unknown]

variable {l : Lot} (found : s.lot? serial = some l)
include found

theorem takeRjct_of_wrongState (wrong : l.state = .void ∨ l.state = .rejected) : takeRjct args s = refuse .wrongState s := by
  rcases wrong with state | state <;> simp only [takeRjct, given, found, state]

theorem takeRjct_of_dosed (dosed : l.state = .dosed) :
    takeRjct args s = accept (.rejected serial .dosed .void) (voidDose l.line serial s) := by
  simp only [takeRjct, given, found, dosed]

theorem takeRjct_of_credited (credited : l.state.credited = true) :
    takeRjct args s = accept (.rejected serial l.state .rejected) (rejectLot l s) := by
  simp only [takeRjct, given, found]
  cases state : l.state
  case dosed | void | rejected => simp [state, LotState.credited] at credited
  all_goals rfl

end

/-- The lot REJECTED and out of the queue, QUEUE_READY judged again: what every rejection in a lane begins with (R109, R133). -/
def State.withRejected (s : State) (serial : Nat) : State :=
  reportQueue (leaveQueue serial (changeLot serial (fun x => (x.withState .rejected).withHold none) s))

theorem State.withRejected_eq (s : State) (serial : Nat) : s.withRejected serial
    = reportCondition .queueReady (!(s.queue.filter (· ≠ serial)).isEmpty) { s with
      lots := s.lots.map fun x => if x.serial = serial then { x with state := .rejected, hold := none } else x
      queue := s.queue.filter (· ≠ serial) } := rfl

section
variable {l : Lot} {s : State}

theorem rejectLot_of_others (notClaimed : l.state ≠ .claimed) (notOverdue : l.state ≠ .overdue) : rejectLot l s
    = if l.atFront then reportRejected (s.withRejected l.serial) else s.withRejected l.serial := by
  simp only [rejectLot, if_neg notClaimed, if_neg notOverdue, State.withRejected]

theorem rejectLot_of_overdue (overdue : l.state = .overdue) : rejectLot l s
    = reportOverdue (if l.atFront then reportRejected (s.withRejected l.serial) else s.withRejected l.serial) := by
  simp [rejectLot, overdue, State.withRejected]

theorem rejectLot_of_claimed (claimed : l.state = .claimed) (front : l.atFront = true) : rejectLot l s
    = reportRejected (revokeClaim l.serial (s.withRejected l.serial)) := by
  simp [rejectLot, claimed, front, State.withRejected]

end

/-- Which front lots are REJECTED rests on the lots and the lanes alone (R137). -/
theorem anyRejectedAtFront_congr {s t : State} (lots : t.lots = s.lots) (lanes : t.lanes = s.lanes) :
    t.anyRejectedAtFront = s.anyRejectedAtFront := by
  have fronts : t.frontRejected = s.frontRejected := by
    funext lane
    simp only [State.frontRejected, State.lot?, lots]
  rw [State.anyRejectedAtFront, State.anyRejectedAtFront, fronts, lanes]

/-- Whether some lot is OVERDUE rests on the lots alone (R138). -/
theorem anyOverdue_congr {s t : State} (lots : t.lots = s.lots) : t.anyOverdue = s.anyOverdue := by
  rw [State.anyOverdue, State.anyOverdue, lots]

/-- Settles O36: the taking of RJCT by the lot's state, answered at once. -/
theorem rjctRejectsTheLot : Obligations.RjctRejectsTheLot := by
  intro args s atOnce fits
  rw [exec_rjct atOnce fits]
  refine ⟨fun short => ?_, fun serial given => ⟨fun unknown => ?_, fun l found => ⟨fun wrong => ?_, fun dosed => ?_, ?_⟩⟩⟩
  · rw [takeRjct_of_short short]
    rfl
  · rw [takeRjct_of_unknown given unknown]
    rfl
  · rw [takeRjct_of_wrongState given found wrong]
    rfl
  · rw [takeRjct_of_dosed given found dosed, voidDose_eq]
    rfl
  obtain ⟨-, rfl⟩ := mem_of_lot? s found
  rw [← State.withRejected_eq]
  simp only [← Lot.atFront_iff_position]
  rintro r rfl
  refine ⟨fun undue => ?_, fun overdue => ?_, fun claimed front => ?_⟩
  · obtain ⟨credited, notClaimed, notOverdue⟩ : l.state.credited = true ∧ l.state ≠ .claimed ∧ l.state ≠ .overdue := by
      rcases undue with state | state <;> simp [state, LotState.credited]
    rw [takeRjct_of_credited given found credited, rejectLot_of_others notClaimed notOverdue]
    rfl
  · have judged : (if l.atFront then reportRejected (s.withRejected l.serial) else s.withRejected l.serial).anyOverdue
        = (s.withRejected l.serial).anyOverdue := by
      apply anyOverdue_congr
      split
      · exact reportRejected_lots _
      · rfl
    rw [takeRjct_of_credited given found (by rw [overdue]; rfl), rejectLot_of_overdue overdue, reportOverdue, judged, overdue]
    rfl
  · have judged : (revokeClaim l.serial (s.withRejected l.serial)).anyRejectedAtFront
        = (s.withRejected l.serial).anyRejectedAtFront :=
      anyRejectedAtFront_congr (revokeClaim_lots _ _) (revokeClaim_lanes _ _)
    rw [takeRjct_of_credited given found (by rw [claimed]; rfl), rejectLot_of_claimed claimed front, reportRejected, judged, claimed]
    rfl

/-! ### CLRB -/

section
variable {args : List Byte} {s : State}

theorem takeClrb_of_empty : takeClrb [] s = refuse .badArgument s := rfl

theorem takeClrb_of_noBay {bay : Nat} (given : oneByte? args = some bay) (noBay : 15 < bay) :
    takeClrb args s = refuse .badArgument s := by
  simp only [takeClrb, given, Option.bind_some, bay?_eq_none_iff.2 noBay]

variable {b : Bay} (given : oneByte? args = some b.val)
include given

theorem takeClrb_of_emptyLane (empty : s.lanes[b].lots = []) : takeClrb args s = refuse .bayEmpty s := by
  simp only [takeClrb, given, Option.bind_some, bay?_val, empty]

variable {front : Nat} {behind : List Nat} (lane : s.lanes[b].lots = front :: behind)
include lane

theorem takeClrb_of_unrejected (unrejected : s.frontRejected s.lanes[b] = false) : takeClrb args s = refuse .notRejected s := by
  simp only [takeClrb, given, Option.bind_some, bay?_val, lane, unrejected, Bool.false_eq_true, if_false]

theorem takeClrb_of_rejected (rejected : s.frontRejected s.lanes[b] = true) : takeClrb args s
    = accept (.cleared b front behind.length) (handOver b (removeFront b s)) := by
  simp only [takeClrb, given, Option.bind_some, bay?_val, lane, rejected, if_true]

end

section
variable {s : State} {b : Bay}

theorem readyFront_of_empty (empty : s.lanes[b].lots = []) : s.readyFront b = none := by
  simp only [State.readyFront, empty, List.head?_nil]

variable {front : Nat} {behind : List Nat} (lane : s.lanes[b].lots = front :: behind)
include lane

/-- The removal of a lane's front in one record update (R73). -/
theorem removeFront_of_lane : removeFront b s = { s with
    lanes := s.lanes.set b { s.lanes[b] with lots := behind }
    lots := (s.lots.filter (·.serial ≠ front)).map fun x => if x.serial ∈ behind
      then { x with place := x.place.map fun p => { p with position := p.position - 1 } } else x } := by
  simp only [removeFront, lane, List.head?_cons, List.tail_cons, ne_eq, Option.some.injEq]
  rfl

variable {l : Lot} (found : s.lot? front = some l)
include found

theorem frontRejected_eq : s.frontRejected s.lanes[b] = decide (l.state = .rejected) := by
  simp only [State.frontRejected, lane, List.head?_cons, found, Option.any_some]

theorem readyFront_eq : s.readyFront b = if l.ready then some front else none := by
  simp only [State.readyFront, lane, List.head?_cons, found, Option.any_some]

end

section
variable {s : State} {b : Bay}

/-- A lane that offers no lot leaves the queue as it is, which is reported (R74). -/
theorem handOver_of_unready (unready : s.readyFront b = none) : handOver b s = reportRejected (reportQueue s) := by
  simp only [handOver, joinFront, unready]

/-- A new front that the lane offers joins the queue's tail, which is reported (R74, R108). -/
theorem handOver_of_ready {front : Nat} (ready : s.readyFront b = some front) (outside : front ∉ s.queue) : handOver b s
    = reportRejected (reportCondition .queueReady true { s with queue := s.queue ++ [front] }) := by
  have joins : joinFront b s = joinTail front s := by simp only [joinFront, joinTail, ready]
  rw [handOver, joins, reportQueue_joinTail outside]

end

/-- Settles O37: the taking of CLRB, check by check, answered at once, with the front removal and the hand-over as equations. -/
theorem clrbClearsTheFront : Obligations.ClrbClearsTheFront := by
  refine ⟨fun args s atOnce fits => ?_, fun b front behind s lane => removeFront_of_lane lane, fun b s =>
    ⟨fun front behind l lane found cured unheld outside => ?_, fun front behind l lane found unready => ?_, fun empty => ?_⟩⟩
  · rw [exec_clrb atOnce fits]
    refine ⟨?_, fun bay given => ⟨fun noBay => ?_, ?_⟩⟩
    · rintro rfl
      rw [takeClrb_of_empty]
      rfl
    · rw [takeClrb_of_noBay given noBay]
      rfl
    rintro b rfl
    refine ⟨fun empty => ?_, fun front behind l lane found => ⟨fun unrejected => ?_, fun rejected => ?_⟩⟩
    · rw [takeClrb_of_emptyLane given empty]
      rfl
    · rw [takeClrb_of_unrejected given lane ((frontRejected_eq lane found).trans (decide_eq_false unrejected))]
      rfl
    · rw [takeClrb_of_rejected given lane ((frontRejected_eq lane found).trans (decide_eq_true rejected))]
      rfl
  · refine handOver_of_ready ?_ outside
    rw [readyFront_eq lane found, if_pos (Lot.ready_iff.2 ⟨cured, unheld⟩)]
  · refine handOver_of_unready ?_
    rw [readyFront_eq lane found, if_neg fun ready => ?_]
    obtain ⟨cured, unheld⟩ := Lot.ready_iff.1 ready
    exact unready.elim (· cured) (· unheld)
  · exact handOver_of_unready (readyFront_of_empty empty)

/-! ### EXTD -/

theorem extension?_of_short {args : List Byte} (short : args.length < 5) : extension? args = none := by
  unfold extension?
  split
  · simp only [List.length_cons] at short
    omega
  · rfl

section
variable {args : List Byte} {s : State}

theorem takeExtd_of_short (short : args.length < 5) : takeExtd args s = refuse .badArgument s := by
  simp only [takeExtd, extension?_of_short short]

variable {serial minutes : Nat} (given : extension? args = some (serial, minutes))
include given

theorem takeExtd_of_outside (outside : minutes < 60 ∨ 10080 < minutes) : takeExtd args s = refuse .badArgument s := by
  simp [takeExtd, given, outside]

variable (above : 60 ≤ minutes) (below : minutes ≤ 10080)
include above below

theorem takeExtd_of_unknown (unknown : s.lot? serial = none) : takeExtd args s = refuse .unknownLot s := by
  simp [takeExtd, given, Nat.not_lt.2 above, Nat.not_lt.2 below, unknown]

variable {l : Lot} (found : s.lot? serial = some l)
include found

theorem takeExtd_of_wrongState (notCuring : l.state ≠ .curing) (notOverdue : l.state ≠ .overdue) :
    takeExtd args s = refuse .wrongState s := by
  simp only [takeExtd, given, Nat.not_lt.2 above, Nat.not_lt.2 below, found]
  cases state : l.state
  case curing => exact absurd state notCuring
  case overdue => exact absurd state notOverdue
  all_goals rfl

theorem takeExtd_of_extendable (extendable : l.state = .curing ∨ l.state = .overdue) : takeExtd args s
    = accept (.extended serial (l.extendedBy minutes).maxAge .curing) (extendLot l minutes s) := by
  rcases extendable with state | state <;>
    simp [takeExtd, given, Nat.not_lt.2 above, Nat.not_lt.2 below, found, state]

end

/-- The extension of a lot in one record update: the maximum age and the count saturate (R135). -/
theorem changeLot_extendedBy_eq (serial minutes : Nat) (s : State) : changeLot serial (Lot.extendedBy minutes) s = { s with
    lots := s.lots.map fun x => if x.serial = serial
      then { x with
        state := .curing, maxAge := min 65535 (x.maxAge + minutes), extensions := min 255 (x.extensions + 1)
        extended := true } else x } := rfl

section
variable {l : Lot} (minutes : Nat) (s : State)

theorem extendLot_of_curing (curing : l.state = .curing) :
    extendLot l minutes s = changeLot l.serial (Lot.extendedBy minutes) s := by
  simp [extendLot, curing]

theorem extendLot_of_overdue (overdue : l.state = .overdue) :
    extendLot l minutes s = reportOverdue (changeLot l.serial (Lot.extendedBy minutes) s) := by
  simp [extendLot, overdue]

end

/-- Settles O38: the taking of EXTD, check by check, answered at once. -/
theorem extdExtendsTheLot : Obligations.ExtdExtendsTheLot := by
  intro args s atOnce fits
  rw [exec_extd atOnce fits]
  refine ⟨fun short => ?_, fun serial minutes given => ⟨fun outside => ?_, fun above below => ⟨fun unknown => ?_, fun l found =>
    ⟨fun notCuring notOverdue => ?_, ?_⟩⟩⟩⟩
  · rw [takeExtd_of_short short]
    rfl
  · rw [takeExtd_of_outside given outside]
    rfl
  · rw [takeExtd_of_unknown given above below unknown]
    rfl
  · rw [takeExtd_of_wrongState given above below found notCuring notOverdue]
    rfl
  obtain ⟨-, rfl⟩ := mem_of_lot? s found
  rw [← changeLot_extendedBy_eq]
  rintro r rfl
  refine ⟨fun curing => ?_, fun overdue => ?_⟩
  · rw [takeExtd_of_extendable given above below found (.inl curing), extendLot_of_curing minutes s curing]
    rfl
  · rw [takeExtd_of_extendable given above below found (.inr overdue), extendLot_of_overdue minutes s overdue]
    rfl

end Sys2Proof.Machine
end

section
/-! ## What the owners' takings and events do to the link (R148, R151, R158)

An owner acts on the link interface through the attention unit alone: a kind that becomes pending marks a notice slot. So a taking, or
an event that an owner takes, leaves the inboxes, the answers, the transmitter and the phase, and marks at most slots that carry no
answer. The laws of the link and of the phase rest on this alone. -/

namespace Sys2Proof.Machine

open Sys2Proof

/-- What the law of the phase reads of a state. -/
structure Phased where
  phase : Phase
  ready : Bool
  selfTestPassed : Option Bool
  retentionLost : Bool
  decidedCause : StartCause

/-- What the law of the link reads of a state beside the slots. -/
structure OnBus where
  phase : Phase
  link : LinkState
  inboxes : Vector (Option (List Byte)) 7
  lostMarks : Vector Bool 7
  answers : Vector (Option Answer) 7
  transmitter : Option Attempt

def State.phased (s : State) : Phased where
  phase := s.phase
  ready := s.ready
  selfTestPassed := s.selfTestPassed
  retentionLost := s.retentionLost
  decidedCause := s.decidedCause

def State.onBus (s : State) : OnBus where
  phase := s.phase
  link := s.link
  inboxes := s.inboxes
  lostMarks := s.lostMarks
  answers := s.answers
  transmitter := s.transmitter

/-- What the laws of the phase and of the link read of a state beside the slots. -/
def State.linked (s : State) : Phased × OnBus := (s.phased, s.onBus)

/-! ### Slots marked, failed and completed (Table 9–13) -/

/-- A mark leaves a slot sending or not sending, as it was. -/
theorem SlotState.mark_sends (x : SlotState) :
    (x.mark = .sending ∨ x.mark = .sendingMarked) ↔ (x = .sending ∨ x = .sendingMarked) := by
  cases x <;> decide

theorem SlotState.fail_of_sends {x : SlotState} (sends : x = .sending ∨ x = .sendingMarked) : x.fail = .pending := by
  obtain rfl | rfl := sends <;> rfl

theorem SlotState.complete_of_sends {x : SlotState} (sends : x = .sending ∨ x = .sendingMarked) :
    x.complete = if x = .sending then .empty else .pending := by
  obtain rfl | rfl := sends <;> rfl

theorem SlotState.complete_idle (x : SlotState) : ¬(x.complete = .sending ∨ x.complete = .sendingMarked) := by
  cases x <;> decide

/-- From s to t some slots that carry no answer are marked, and the rest of what the laws of the link and the phase read stays. -/
structure SlotsMarked (s t : State) : Prop where
  linked : t.linked = s.linked
  answerSlots : ∀ st : Station, t.slots[answerSlot st] = s.slots[answerSlot st]
  marked : ∀ i : SlotNo, t.slots[i] = s.slots[i] ∨ t.slots[i] = s.slots[i].mark

theorem SlotsMarked.of_eq {s t : State} (linked : t.linked = s.linked) (slots : t.slots = s.slots) : SlotsMarked s t where
  linked := linked
  answerSlots _ := by rw [slots]
  marked _ := .inl (by rw [slots])

theorem SlotsMarked.phased {s t : State} (h : SlotsMarked s t) : t.phased = s.phased := congrArg Prod.fst h.linked

theorem SlotsMarked.onBus {s t : State} (h : SlotsMarked s t) : t.onBus = s.onBus := congrArg Prod.snd h.linked

theorem SlotsMarked.refl (s : State) : SlotsMarked s s := .of_eq rfl rfl

theorem SlotsMarked.trans {s t u : State} (a : SlotsMarked s t) (b : SlotsMarked t u) : SlotsMarked s u where
  linked := b.linked.trans a.linked
  answerSlots st := (b.answerSlots st).trans (a.answerSlots st)
  marked i := by
    obtain second | second := b.marked i <;> obtain first | first := a.marked i <;> rw [second, first]
    · exact .inl rfl
    · exact .inr rfl
    · exact .inr rfl
    · exact .inr (SlotState.mark_mark _)

/-- What changes neither the slots nor anything linked comes after the marks for free. -/
theorem SlotsMarked.then_eq {s t u : State} (h : SlotsMarked s t) (linked : u.linked = t.linked) (slots : u.slots = t.slots) :
    SlotsMarked s u :=
  h.trans (.of_eq linked slots)

/-! ### Reports -/

/-- R158: a kind that becomes pending marks notice slots alone. -/
theorem slotsMarked_raiseFor (who : Station → Bool) (k : AttnKind) (s : State) : SlotsMarked s (raiseFor who k s) where
  linked := rfl
  answerSlots st := raiseFor_slots_answerSlot s who k st
  marked i := by
    simp only [raiseFor, Fin.getElem_fin, Vector.getElem_ofFn]
    split
    · split_ifs
      · exact .inr rfl
      · exact .inl rfl
    · exact .inl rfl

theorem slotsMarked_reportCondition (k : AttnKind) (value : Bool) (s : State) : SlotsMarked s (reportCondition k value s) := by
  fun_cases reportCondition k value s
  case case1 => exact slotsMarked_raiseFor _ k s
  case case2 => exact .of_eq rfl rfl

/-- A change of nothing that the laws read, and then a raise. -/
theorem slotsMarked_raised {s t : State} {who : Station → Bool} {k : AttnKind} (linked : t.linked = s.linked)
    (slots : t.slots = s.slots) : SlotsMarked s (raiseFor who k t) :=
  (SlotsMarked.of_eq linked slots).trans (slotsMarked_raiseFor who k t)

/-- A change of nothing that the laws read, and then a report. -/
theorem slotsMarked_reported {s t : State} {k : AttnKind} {value : Bool} (linked : t.linked = s.linked)
    (slots : t.slots = s.slots) : SlotsMarked s (reportCondition k value t) :=
  (SlotsMarked.of_eq linked slots).trans (slotsMarked_reportCondition k value t)

theorem SlotsMarked.report {s t : State} {k : AttnKind} {value : Bool} (h : SlotsMarked s t) :
    SlotsMarked s (reportCondition k value t) :=
  h.trans (slotsMarked_reportCondition k value t)

/-! ### The takings of the commands -/

section
variable (s : State)

theorem slotsMarked_voidDose (n : Line) (serial : Nat) : SlotsMarked s (voidDose n serial s) := slotsMarked_raised rfl rfl

theorem slotsMarked_revokeClaim (serial : Nat) : SlotsMarked s (revokeClaim serial s) := slotsMarked_raised rfl rfl

theorem slotsMarked_takeReading (b : Bay) (t : Int) : SlotsMarked s (takeReading b t s) := by
  fun_cases takeReading b t s
  case case1 => exact slotsMarked_reported rfl rfl
  case case2 => exact slotsMarked_raiseFor _ _ s

theorem slotsMarked_doseWith (n : Line) (q : DoseRequest) (k : RecipeNo) : SlotsMarked s (doseWith n q k s).state := by
  unfold doseWith
  dsimp only
  split <;> exact .of_eq rfl rfl

theorem slotsMarked_unholdLot (l : Lot) : SlotsMarked s (unholdLot l s) :=
  iteInduction (fun _ => slotsMarked_reported rfl rfl) fun _ => .of_eq rfl rfl

theorem slotsMarked_rejectLot (l : Lot) : SlotsMarked s (rejectLot l s) := by
  have revoked {t : State} (h : SlotsMarked s t) : SlotsMarked s (if l.state = .claimed then revokeClaim l.serial t else t) :=
    iteInduction (fun _ => h.trans (slotsMarked_revokeClaim t _)) fun _ => h
  have front {t : State} (h : SlotsMarked s t) : SlotsMarked s (if l.atFront then reportRejected t else t) :=
    iteInduction (fun _ => h.report) fun _ => h
  have overdue {t : State} (h : SlotsMarked s t) : SlotsMarked s (if l.state = .overdue then reportOverdue t else t) :=
    iteInduction (fun _ => h.report) fun _ => h
  exact overdue (front (revoked (slotsMarked_reported rfl rfl)))

theorem slotsMarked_extendLot (l : Lot) (minutes : Nat) : SlotsMarked s (extendLot l minutes s) :=
  iteInduction (fun _ => slotsMarked_reported rfl rfl) fun _ => .of_eq rfl rfl

/-- SPAR of any parameter sets a limit, a capacity or a time of its own. -/
theorem slotsMarked_takeSpar (args : List Byte) : SlotsMarked s (takeSpar args s).state := by
  fun_cases takeSpar args s
  case case2 index value _ => fun_cases takeCementMax index value s <;> exact .of_eq rfl rfl
  case case3 index value _ => fun_cases takeWaterMax index value s <;> exact .of_eq rfl rfl
  case case4 index value _ => fun_cases takeAdditiveMax index value s <;> exact .of_eq rfl rfl
  case case5 index value _ => fun_cases takeStaleLimit index value s <;> exact .of_eq rfl rfl
  case case6 index value _ => fun_cases takeBayCapacity index value s <;> exact .of_eq rfl rfl
  case case7 index value _ => fun_cases takeClaimTimeout index value s <;> exact .of_eq rfl rfl
  all_goals exact .refl s

/-- The owner's taking of any command. -/
theorem slotsMarked_deliver (c : CommandCode) (st : Station) (args : List Byte) : SlotsMarked s (deliver c st args s).state := by
  cases c <;> unfold deliver <;> dsimp only
  case dosq =>
    fun_cases takeDosq (lineOf st) args s
    case case8 => exact slotsMarked_doseWith s _ _ _
    all_goals exact .refl s
  case tmpr =>
    fun_cases takeTmpr args s
    case case3 => exact slotsMarked_takeReading s _ _
    case case5 => exact (slotsMarked_takeReading s _ _).trans (slotsMarked_takeReading _ _ _)
    all_goals exact .refl s
  case clnx =>
    fun_cases takeClnx args s
    case case6 | case7 => exact slotsMarked_reported rfl rfl
    all_goals exact .refl s
  case cnfm =>
    fun_cases takeCnfm args s
    case case4 => exact SlotsMarked.report (slotsMarked_reported rfl rfl)
    all_goals exact .refl s
  case rtrn =>
    fun_cases takeRtrn args s
    case case3 =>
      show SlotsMarked s (reportQueue (returnClaim _ s))
      exact slotsMarked_reported rfl rfl
    all_goals exact .refl s
  case hold =>
    fun_cases takeHold args s
    case case4 | case6 | case8 => exact slotsMarked_reported rfl rfl
    case case9 => exact slotsMarked_raised rfl rfl
    all_goals exact .refl s
  case unhd =>
    fun_cases takeUnhd args s
    case case3 | case4 | case5 => exact slotsMarked_unholdLot s _
    all_goals exact .refl s
  case rjct =>
    fun_cases takeRjct args s
    case case3 => exact slotsMarked_voidDose s _ _
    case case4 | case5 | case6 | case7 => exact slotsMarked_rejectLot s _
    all_goals exact .refl s
  case clrb =>
    fun_cases takeClrb args s
    case case3 => exact SlotsMarked.report (slotsMarked_reported rfl rfl)
    all_goals exact .refl s
  case extd =>
    fun_cases takeExtd args s
    case case4 | case5 => exact slotsMarked_extendLot s _ _
    all_goals exact .refl s
  case stim =>
    fun_cases takeStim args s
    case case1 => exact .refl s
    case case2 minute _ =>
      show SlotsMarked s (reportTime (zeroTimeBase (setPlantMinute minute s)))
      exact slotsMarked_reported rfl rfl
  case spar => exact slotsMarked_takeSpar s args
  case qlot => rw [takeQlot_state]; exact .refl s
  case qrel => rw [takeQrel_state]; exact .refl s
  case dsch => fun_cases takeDsch (lineOf st) args s <;> exact .of_eq rfl rfl
  case abdn => fun_cases takeAbdn (lineOf st) s <;> exact .of_eq rfl rfl
  case lock => unfold takeLock; fun_cases takeLaneLock true args s <;> exact .of_eq rfl rfl
  case ulck => unfold takeUlck; fun_cases takeLaneLock false args s <;> exact .of_eq rfl rfl
  case rcpw => fun_cases takeRcpw args s <;> exact .of_eq rfl rfl
  case rcpe => fun_cases takeRcpe args s <;> exact .of_eq rfl rfl
  case rcpd => fun_cases takeRcpd args s <;> exact .of_eq rfl rfl
  case rcpr => fun_cases takeRcpr args s <;> exact .of_eq rfl rfl
  case atcl => fun_cases takeAtcl st args s <;> exact .of_eq rfl rfl
  case atmk => fun_cases takeAtmk st args s <;> exact .of_eq rfl rfl
  case atrd | qlin | rstw | rstc => exact .of_eq rfl rfl

/-- The taking of any command frame. -/
theorem slotsMarked_judgeFrame (st : Station) (data : List Byte) : SlotsMarked s (judgeFrame st data s).state := by
  fun_cases judgeFrame st data s
  case case3 c _ _ => exact slotsMarked_deliver s c st _
  all_goals exact .refl s

/-! ### The time base and the halt input -/

theorem slotsMarked_expireWindow (n : Line) : SlotsMarked s (expireWindow n s) := by
  fun_cases expireWindow n s
  case case1 => exact slotsMarked_voidDose s n _
  all_goals exact .refl s

theorem slotsMarked_runWindow (n : Line) : SlotsMarked s (runWindow n s) := by
  fun_cases runWindow n s
  case case1 => exact slotsMarked_expireWindow s n
  case case2 => exact slotsMarked_raised rfl rfl
  case case3 => exact .of_eq rfl rfl
  all_goals exact .refl s

theorem slotsMarked_runWindows : SlotsMarked s (runWindows s) :=
  (((slotsMarked_runWindow s 0).trans (slotsMarked_runWindow _ 1)).trans (slotsMarked_runWindow _ 2)).trans
    (slotsMarked_runWindow _ 3)

theorem slotsMarked_expireClaims : SlotsMarked s (expireClaims s) := by
  have ended (claims : List Claim) : SlotsMarked s (claims.foldr expireClaim s) := by
    induction claims with
    | nil => exact .refl s
    | cons c rest ih => exact ih.trans (slotsMarked_raised rfl rfl)
  exact (ended _).report

theorem slotsMarked_runClaims : SlotsMarked s (runClaims s) :=
  SlotsMarked.then_eq (t := if s.claims.any Claim.ends then expireClaims s else s)
    (iteInduction (fun _ => slotsMarked_expireClaims s) fun _ => .refl s) rfl rfl

theorem slotsMarked_holdForHeat (l : Lot) : SlotsMarked s (holdForHeat l s) := by
  have held (f : Lot → Lot) : SlotsMarked s (raise supervisorStation .hotHold (leaveQueue l.serial (changeLot l.serial f s))) :=
    slotsMarked_raised rfl rfl
  exact iteInduction (fun _ => (held _).trans (slotsMarked_revokeClaim _ _)) fun _ => held _

theorem slotsMarked_judgeLot (serial : Nat) : SlotsMarked s (judgeLot serial s) := by
  have heat (l : Lot) (s : State) : SlotsMarked s (judgeHeat l s) := by
    fun_cases judgeHeat l s
    case case1 => exact slotsMarked_holdForHeat s l
    case case2 => exact .of_eq rfl rfl
    case case3 => exact .refl s
  have join (serial : Nat) (s : State) : SlotsMarked s (judgeJoin serial s) := by
    fun_cases judgeJoin serial s <;> exact .of_eq rfl rfl
  fun_cases judgeLot serial s
  case case1 l _ _ =>
    have decided : SlotsMarked s (changeLot l.serial (Lot.withState l.decidedState) s) := .of_eq rfl rfl
    exact (decided.trans (heat _ _)).trans (join _ _)
  all_goals exact .refl s

theorem slotsMarked_judgeLots (serials : List Nat) : SlotsMarked s (judgeLots serials s) := by
  induction serials generalizing s with
  | nil => exact .refl s
  | cons serial rest ih => exact (slotsMarked_judgeLot s serial).trans (ih _)

theorem slotsMarked_takeInterval : SlotsMarked s (takeInterval s) := by
  have credited : SlotsMarked s (creditInterval s) := by
    rw [creditInterval_eq]
    exact .of_eq rfl rfl
  exact (credited.trans (slotsMarked_judgeLots _ _)).report.report.report

theorem slotsMarked_takeSecond : SlotsMarked s (takeSecond s) := by
  have counted : SlotsMarked s (countSecond s) := .of_eq rfl rfl
  have run := (counted.trans (slotsMarked_runWindows _)).trans (slotsMarked_runClaims _)
  exact iteInduction (fun _ => run.trans (slotsMarked_takeInterval _)) fun _ => run

theorem slotsMarked_registration (level : Bool) : SlotsMarked s (reportHalt (registerHalt level s)) := slotsMarked_reported rfl rfl

/-- The reports of a start (R163). -/
theorem slotsMarked_reportStart (voided : Line → Bool) : SlotsMarked s (reportStart voided s) :=
  ((slotsMarked_raiseFor _ _ s).trans (slotsMarked_raiseFor _ _ _)).report.report.report.report.report.report

end
end Sys2Proof.Machine
end

section
/-! ## The law of the link (R149 to R155)

Every operation of the link interface moves one slot, or one inbox, and the law goes with it. -/

namespace Sys2Proof.Machine

open Sys2Proof

theorem getElem_set_fin {α : Type} {n : Nat} (table : Vector α n) (i j : Fin n) (x : α) :
    (table.set i x)[j] = if j = i then x else table[j] := by
  simp only [Fin.getElem_fin, Vector.getElem_set, Fin.ext_iff, eq_comm]

theorem answerSlot_inj {a b : Station} : answerSlot a = answerSlot b ↔ a = b := ⟨answerSlot_injective, congrArg answerSlot⟩

/-! ### What does not touch the link -/

/-- Marks keep the law, and off-bus, where nothing is marked, any change that the law does not read. -/
theorem LinkLaw.of_marked {s t : State} (h : LinkLaw s) (m : SlotsMarked s t) (offBus : s.link = .offBus → t.slots = s.slots) :
    LinkLaw t := by
  obtain ⟨phase, link, inboxes, lost, answers, transmitter⟩ := OnBus.mk.inj m.onBus
  exact {
    inService := by rw [link, phase]; exact h.inService
    answerNotMarkedAgain := fun st => by rw [m.answerSlots]; exact h.answerNotMarkedAgain st
    answerHeld := fun st => by rw [answers, m.answerSlots]; exact h.answerHeld st
    waitsForAnswer := fun st => by rw [inboxes, m.answerSlots]; exact h.waitsForAnswer st
    lostWhileWaiting := by rw [lost, inboxes]; exact h.lostWhileWaiting
    oneAttempt := fun i => by
      rw [transmitter, ← h.oneAttempt i]
      obtain same | marked := m.marked i
      · rw [same]
      · rw [marked]
        exact SlotState.mark_sends _
    sendsOnBus := by rw [transmitter, link]; exact h.sendsOnBus
    emptyOffBus := fun off => by
      rw [link] at off
      rw [offBus off]
      exact h.emptyOffBus off }

theorem LinkLaw.of_onBus {s t : State} (h : LinkLaw s) (same : t.onBus = s.onBus) (slots : t.slots = s.slots) : LinkLaw t := by
  obtain ⟨phase, link, inboxes, lost, answers, transmitter⟩ := OnBus.mk.inj same
  constructor <;> simp only [phase, link, inboxes, lost, answers, transmitter, slots]
  exacts [h.inService, h.answerNotMarkedAgain, h.answerHeld, h.waitsForAnswer, h.lostWhileWaiting, h.oneAttempt, h.sendsOnBus,
    h.emptyOffBus]

theorem LinkLaw.inService_of_joined {s : State} (h : LinkLaw s) (joined : s.link ≠ .offBus) : s.phase = .inService :=
  not_not.1 (mt h.inService.2 joined)

theorem LinkLaw.joined {s : State} (h : LinkLaw s) (serving : s.phase = .inService) : s.link ≠ .offBus :=
  fun off => h.inService.1 off serving

/-! ### One slot moves -/

section
variable {s t : State} (h : LinkLaw s)
include h

/-- One slot takes a state, with its answer where it carries one and with the transmitter. -/
theorem LinkLaw.setSlot {i : SlotNo} {x : SlotState} (slots : t.slots = s.slots.set i x) (phase : t.phase = .inService)
    (joined : t.link ≠ .offBus) (inboxes : t.inboxes = s.inboxes) (lost : t.lostMarks = s.lostMarks)
    (otherAnswers : ∀ st, answerSlot st ≠ i → t.answers[st] = s.answers[st])
    (answer : ∀ st, answerSlot st = i →
      x ≠ .sendingMarked ∧ (t.answers[st] = none ↔ x = .empty) ∧ (s.inboxes[st] ≠ none → x ≠ .empty))
    (attempt : ∀ j, (if j = i then x = .sending ∨ x = .sendingMarked else s.transmitter.map (·.slot) = some j)
      ↔ t.transmitter.map (·.slot) = some j)
    (sends : t.transmitter ≠ none → t.link = .onBus) : LinkLaw t where
  inService := iff_of_false joined (not_not.2 phase)
  answerNotMarkedAgain st := by
    rw [slots, getElem_set_fin]
    split_ifs with at_i
    · exact (answer st at_i).1
    · exact h.answerNotMarkedAgain st
  answerHeld st := by
    rw [slots, getElem_set_fin]
    split_ifs with at_i
    · exact (answer st at_i).2.1
    · rw [otherAnswers st at_i]
      exact h.answerHeld st
  waitsForAnswer st := by
    rw [slots, getElem_set_fin, inboxes]
    split_ifs with at_i
    · exact (answer st at_i).2.2
    · exact h.waitsForAnswer st
  lostWhileWaiting := by
    rw [lost, inboxes]
    exact h.lostWhileWaiting
  oneAttempt j := by
    rw [slots, getElem_set_fin, ← attempt j]
    split_ifs with at_i
    · rfl
    · exact h.oneAttempt j
  sendsOnBus := sends
  emptyOffBus off := absurd off joined

/-- An answer is placed in an empty slot (R150). -/
theorem LinkLaw.answerPlaced (on : s.link = .onBus) {st : Station} (free : s.slots[answerSlot st] = .empty) (a : Answer) :
    LinkLaw { s with answers := s.answers.set st (some a), slots := s.slots.set (answerSlot st) .pending } := by
  have joined : s.link ≠ .offBus := by simp [on]
  refine h.setSlot rfl (h.inService_of_joined joined) joined rfl rfl (fun other apart => ?_) (fun other same => ?_) (fun j => ?_)
    fun _ => on
  · rw [getElem_set_fin, if_neg (mt (congrArg answerSlot) apart)]
  · rw [answerSlot_inj.1 same, getElem_set_fin, if_pos rfl]
    simp
  · split_ifs with at_slot
    · rw [at_slot, ← h.oneAttempt, free]
      simp
    · rfl

/-- An attempt starts on a pending slot (R152). -/
theorem LinkLaw.startAttempt (on : s.link = .onBus) (free : s.transmitter = none) {i : SlotNo} (pending : s.slots[i] = .pending) :
    LinkLaw (startAttempt i s) := by
  have joined : s.link ≠ .offBus := by simp [on]
  have slots : (Machine.startAttempt i s).slots = s.slots.set i .sending := by
    rw [Machine.startAttempt, pending]
    rfl
  refine h.setSlot slots (h.inService_of_joined joined) joined rfl rfl (fun _ _ => rfl) (fun st at_i => ?_) (fun j => ?_) fun _ => on
  · subst at_i
    have held : s.answers[st] ≠ none := by
      rw [ne_eq, h.answerHeld st, pending]
      decide
    exact ⟨by decide, iff_of_false held (by decide), fun _ => by decide⟩
  · simp [Machine.startAttempt, free, eq_comm]

/-- The transmitter becomes free and the slot of its attempt takes a state that does not send. -/
theorem LinkLaw.attemptEnded {att : Attempt} (busy : s.transmitter = some att) {x : SlotState}
    (idle : ¬(x = .sending ∨ x = .sendingMarked)) (slots : t.slots = s.slots.set att.slot x) (free : t.transmitter = none)
    (phase : t.phase = s.phase) (link : t.link = s.link) (inboxes : t.inboxes = s.inboxes) (lost : t.lostMarks = s.lostMarks)
    (otherAnswers : ∀ st, answerSlot st ≠ att.slot → t.answers[st] = s.answers[st])
    (answer : ∀ st, answerSlot st = att.slot → (t.answers[st] = none ↔ x = .empty) ∧ (s.inboxes[st] ≠ none → x ≠ .empty)) :
    LinkLaw t := by
  have joined : s.link ≠ .offBus := by simp [h.sendsOnBus (by simp [busy])]
  refine h.setSlot slots (phase.trans (h.inService_of_joined joined)) (link ▸ joined) inboxes lost otherAnswers (fun st at_i =>
    ⟨not_or.1 idle |>.2, answer st at_i⟩) (fun j => ?_) (absurd free)
  simp [free, busy, idle, eq_comm]

theorem LinkLaw.sends {att : Attempt} (busy : s.transmitter = some att) :
    s.slots[att.slot] = .sending ∨ s.slots[att.slot] = .sendingMarked :=
  (h.oneAttempt att.slot).2 (by simp [busy])

end

/-! ### An inbox changes -/

/-- The state with a station's inbox emptied and its LOST mark cleared, as the taking of a command leaves them (R150). -/
def inboxCleared (st : Station) (s : State) : State :=
  { s with inboxes := s.inboxes.set st none, lostMarks := s.lostMarks.set st false }

section
variable {s : State} (h : LinkLaw s)
include h

theorem LinkLaw.inboxCleared (st : Station) : LinkLaw (inboxCleared st s) :=
  { h with
    waitsForAnswer := fun other => by
      show (s.inboxes.set st none)[other] ≠ none → _
      rw [getElem_set_fin]
      split_ifs
      · exact fun waits => absurd rfl waits
      · exact h.waitsForAnswer other
    lostWhileWaiting := fun other => by
      show (s.lostMarks.set st false)[other] = true → (s.inboxes.set st none)[other] ≠ none
      rw [getElem_set_fin, getElem_set_fin]
      split_ifs
      · simp
      · exact h.lostWhileWaiting other }

/-- A frame waits in an inbox while the station's answer slot is not empty (R149). -/
theorem LinkLaw.stored {st : Station} (engaged : s.slots[answerSlot st] ≠ .empty) (data : List Byte) {marks : Vector Bool 7}
    (others : ∀ other, other ≠ st → marks[other] = s.lostMarks[other]) :
    LinkLaw { s with inboxes := s.inboxes.set st (some data), lostMarks := marks } :=
  { h with
    waitsForAnswer := fun other => by
      show (s.inboxes.set st (some data))[other] ≠ none → _
      rw [getElem_set_fin]
      split_ifs with same
      · rw [same]
        exact fun _ => engaged
      · exact h.waitsForAnswer other
    lostWhileWaiting := fun other => by
      show marks[other] = true → (s.inboxes.set st (some data))[other] ≠ none
      rw [getElem_set_fin]
      split_ifs with same
      · simp
      · rw [others other same]
        exact h.lostWhileWaiting other }

theorem LinkLaw.lostMark_of_empty {st : Station} (empty : s.inboxes[st] = none) : s.lostMarks[st] = false :=
  eq_false_of_ne_true fun lost => h.lostWhileWaiting st lost empty

end

/-! ### Commands taken and frames received -/

/-- A command that is taken keeps the law, whatever stood in the station's inbox and its LOST mark (R150). -/
theorem linkLaw_takeCommand {s : State} {st : Station} (h : LinkLaw (inboxCleared st s)) (on : s.link = .onBus)
    (free : s.slots[answerSlot st] = .empty) (data : List Byte) : LinkLaw (takeCommand st data s) := by
  have m : SlotsMarked (setInbox st none s) (judgeFrame st data (setInbox st none s)).state := slotsMarked_judgeFrame _ st data
  generalize taken : judgeFrame st data (setInbox st none s) = t at m
  have link : t.state.link = .onBus := (congrArg OnBus.link m.onBus).trans on
  have slot : t.state.slots[answerSlot st] = .empty := (m.answerSlots st).trans free
  have cleared : SlotsMarked (inboxCleared st s) { t.state with lostMarks := t.state.lostMarks.set st false } :=
    ⟨Prod.ext m.phased (congrArg (fun b : OnBus => { b with lostMarks := b.lostMarks.set st false }) m.onBus), m.answerSlots,
      m.marked⟩
  have unlost := h.of_marked cleared fun off => absurd (on.symm.trans off) (by decide)
  rw [takeCommand, taken, placeAnswer, slot]
  exact unlost.answerPlaced link slot ⟨echoOf data, t.status, t.state.lostMarks[st], t.results⟩

theorem linkLaw_arrive {s : State} (h : LinkLaw s) (st : Station) (data : List Byte) : LinkLaw (arrive st data s) := by
  fun_cases arrive st data s
  case case1 => exact h
  case case2 _ _ waits =>
    exact h.stored (h.waitsForAnswer st (by simp [waits])) _ fun other apart => by rw [getElem_set_fin, if_neg apart]
  case case3 on _ free => exact linkLaw_takeCommand (h.inboxCleared st) (not_not.1 on) free _
  case case4 engaged => exact h.stored engaged _ fun _ _ => rfl

/-- R153: a standing slot carries no answer. -/
theorem slotsMarked_markSlot (s : State) (k : StandingNo) : SlotsMarked s (markSlot (standingSlot k) s) where
  linked := rfl
  answerSlots st := by
    have apart : answerSlot st ≠ standingSlot k := by
      simp only [answerSlot, standingSlot, ne_eq, Fin.mk.injEq]
      omega
    rw [markSlot, getElem_set_fin, if_neg apart]
  marked i := by
    rw [markSlot, getElem_set_fin]
    split_ifs with marked
    · rw [marked]
      exact .inr rfl
    · exact .inl rfl

theorem linkLaw_requestStanding {s : State} (h : LinkLaw s) (k : StandingNo) : LinkLaw (requestStanding k s) := by
  fun_cases requestStanding k s
  case case1 => exact h
  case case2 on => exact h.of_marked (slotsMarked_markSlot s k) fun off => absurd off (by simp [not_not.1 on])

theorem linkLaw_receiveFrame {s : State} (h : LinkLaw s) (f : RxFrame) : LinkLaw (receiveFrame f s) := by
  fun_cases receiveFrame f s
  case case1 st _ => exact linkLaw_arrive h st _
  case case2 k _ => exact linkLaw_requestStanding h k
  case case3 => exact h

/-! ### Attempts -/

section
variable {s : State} (h : LinkLaw s)
include h

/-- An answer that is being sent is marked no second time, and stands in its slot (R150). -/
theorem LinkLaw.answering {att : Attempt} (busy : s.transmitter = some att) {st : Station} (carries : answerSlot st = att.slot) :
    s.slots[answerSlot st] = .sending ∧ s.answers[st] ≠ none := by
  have sends := (h.oneAttempt (answerSlot st)).2 (by rw [busy, carries]; rfl)
  have sending := sends.resolve_right (h.answerNotMarkedAgain st)
  rw [ne_eq, h.answerHeld st, sending]
  exact ⟨rfl, by decide⟩

theorem LinkLaw.failAttempt : LinkLaw (failAttempt s) := by
  fun_cases Machine.failAttempt s
  case case1 att busy =>
    rw [SlotState.fail_of_sends (h.sends busy)]
    exact h.attemptEnded busy (by decide) rfl rfl rfl rfl rfl rfl (fun _ _ => rfl) fun st carries =>
      ⟨iff_of_false (h.answering busy carries).2 (by decide), fun _ => by decide⟩
  case case2 => exact h

/-- With no attempt under way a joined link may go bus-off and come back (R154). -/
theorem LinkLaw.relinked (free : s.transmitter = none) (joined : s.link ≠ .offBus) {link : LinkState} (still : link ≠ .offBus) :
    LinkLaw { s with link := link } :=
  { h with
    inService := iff_of_false still (not_not.2 (h.inService_of_joined joined))
    sendsOnBus := fun busy => absurd free busy
    emptyOffBus := fun off => absurd off still }

theorem LinkLaw.sufferBusError (joined : s.link ≠ .offBus) (tecRise recRise : Nat) :
    LinkLaw (sufferBusError tecRise recRise s) := by
  have free : (Machine.failAttempt s).transmitter = none := by
    fun_cases Machine.failAttempt s
    case case1 => rfl
    case case2 free => exact free
  have link : (Machine.failAttempt s).link = s.link := by fun_cases Machine.failAttempt s <;> rfl
  have still := link ▸ joined
  have risen : (Machine.sufferBusError tecRise recRise s).link ≠ .offBus :=
    iteInduction (motive := (· ≠ LinkState.offBus)) (fun _ => by decide) fun _ => still
  exact (h.failAttempt.relinked free still risen).of_onBus rfl rfl

theorem LinkLaw.busOffRecovered (off : s.link = .busOff) :
    LinkLaw { s with link := .onBus, transmitErrors := 0, receiveErrors := 0 } := by
  have free : s.transmitter = none := not_not.1 fun busy => absurd (off.symm.trans (h.sendsOnBus busy)) (by decide)
  exact (h.relinked free (by simp [off]) (link := .onBus) (by decide)).of_onBus rfl rfl

end

theorem inboxCleared_of_empty {st : Station} {s : State} (empty : s.inboxes[st] = none) (unlost : s.lostMarks[st] = false) :
    inboxCleared st s = s := by
  have inboxes : s.inboxes.set st none = s.inboxes := congrArg State.inboxes (setInbox_none_of_empty empty)
  have marks : s.lostMarks.set st false = s.lostMarks := by
    rw [← unlost]
    exact Vector.set_getElem_self _
  rw [inboxCleared, inboxes, marks]

theorem answerSlot_of_answerStation? {i : SlotNo} {st : Station} (h : answerStation? i = some st) : answerSlot st = i := by
  revert i st
  decide

theorem answerSlot_ne_of_answerStation? {i : SlotNo} (h : answerStation? i = none) (st : Station) : answerSlot st ≠ i := by
  revert i st
  decide

/-- The law of a start that begins (R166, step 1). -/
theorem linkLaw_stopPart {phase : Phase} (stopped : phase ≠ .inService) (s : State) : LinkLaw (stopPart phase s) where
  inService := iff_of_true rfl stopped
  answerNotMarkedAgain st := by simp [stopPart]
  answerHeld st := by simp [stopPart]
  waitsForAnswer st := by simp [stopPart]
  lostWhileWaiting st := by simp [stopPart]
  oneAttempt i := by simp [stopPart]
  sendsOnBus := by simp [stopPart]
  emptyOffBus _ i := by simp [stopPart]

theorem linkLaw_beginStart (cause : StartCause) (s : State) : LinkLaw (beginStart cause s) :=
  (linkLaw_stopPart (phase := .starting) (by decide) s).of_onBus rfl rfl

theorem linkLaw_takeWaiting {st : Station} {s : State} (h : LinkLaw (inboxCleared st s)) (on : s.link = .onBus)
    (free : s.slots[answerSlot st] = .empty) (unlost : s.inboxes[st] = none → s.lostMarks[st] = false) :
    LinkLaw (takeWaiting st s) := by
  fun_cases takeWaiting st s
  case case1 => exact linkLaw_takeCommand h on free _
  case case2 empty => rwa [inboxCleared_of_empty empty (unlost empty)] at h

/-- R150: the slot of a completed answer is empty, and so is its station's inbox once the command waiting there is taken. -/
theorem LinkLaw.answerSent {s : State} (h : LinkLaw s) {att : Attempt} (busy : s.transmitter = some att) {st : Station}
    (carries : answerSlot st = att.slot) (fall : ErrorFall) (straps : Straps) :
    LinkLaw (answerSent st (endAttempt att.slot fall straps s)) := by
  have completed : s.slots[att.slot].complete = .empty := by
    simp only [← carries, (h.answering busy carries).1, SlotState.complete]
  fun_cases Machine.answerSent st (endAttempt att.slot fall straps s)
  case case1 cause _ => exact linkLaw_beginStart cause _
  case case2 =>
    have ended : LinkLaw (Machine.inboxCleared st (clearAnswer st (endAttempt att.slot fall straps s))) := by
      refine (h.inboxCleared st).attemptEnded busy (x := .empty) (by decide) ?_ rfl rfl rfl rfl rfl (fun other apart => ?_)
        fun other same => ?_
      · rw [← completed]
        rfl
      · show (s.answers.set st none)[other] = s.answers[other]
        rw [getElem_set_fin, if_neg fun same : other = st => apart (same ▸ carries)]
      · obtain rfl := answerSlot_inj.1 (same.trans carries.symm)
        show ((s.answers.set other none)[other] = none ↔ _) ∧ ((s.inboxes.set other none)[other] ≠ none → _)
        simp
    have free : (s.slots.set att.slot s.slots[att.slot].complete)[answerSlot st] = .empty := by
      rw [getElem_set_fin, if_pos carries, completed]
    exact linkLaw_takeWaiting ended (h.sendsOnBus (by simp [busy])) free h.lostMark_of_empty

theorem LinkLaw.completeAttempt {s : State} (h : LinkLaw s) (fall : ErrorFall) (straps : Straps) :
    LinkLaw (completeAttempt fall straps s) := by
  fun_cases Machine.completeAttempt fall straps s
  case case1 att busy st carried => exact h.answerSent busy (answerSlot_of_answerStation? carried) fall straps
  case case2 att busy carried =>
    have other := answerSlot_ne_of_answerStation? carried
    exact h.attemptEnded busy (SlotState.complete_idle _) rfl rfl rfl rfl rfl rfl (fun _ _ => rfl) fun st carries =>
      absurd carries (other st)
  case case3 => exact h

end Sys2Proof.Machine
end

section
/-! ## The laws of the link and of the phase at every step (R149 to R155, R164 to R167)

The two need each other: only in service does the link carry a command, an answer or a restart, and only the link's restart begins a
warm start without asking the retention-lost latch. -/

namespace Sys2Proof.Machine

open Sys2Proof

/-! ### The law of the phase -/

theorem PhaseLaw.of_phased {s t : State} (h : PhaseLaw s) (same : t.phased = s.phased) : PhaseLaw t := by
  obtain ⟨phase, ready, passed, latch, cause⟩ := Phased.mk.inj same
  constructor <;> simp only [phase, ready, passed, latch, cause]
  exacts [h.ready, h.fault, h.latchInService, h.latchInStart]

theorem phaseLaw_beginStart {cause : StartCause} {s : State} (warm : cause.isCold = false → s.retentionLost = false) :
    PhaseLaw (beginStart cause s) where
  ready := by simp [beginStart, stopPart]
  fault := by simp [beginStart, stopPart]
  latchInService := by simp [beginStart, stopPart]
  latchInStart _ := warm

/-- R164: at power-on and at the release of a reset the latch decides. -/
theorem phaseLaw_beginStart_latch {s : State} (straps : Straps) :
    PhaseLaw (beginStart s.latchCause { s with strapPins := straps }) := by
  refine phaseLaw_beginStart fun warm => ?_
  show s.retentionLost = false
  cases lost : s.retentionLost
  · rfl
  · simp [State.latchCause, lost, StartCause.isCold] at warm

theorem phaseLaw_stopPart {phase : Phase} (stopped : phase = .heldReset ∨ phase = .unpowered) (s : State) :
    PhaseLaw (stopPart phase s) := by
  obtain rfl | rfl := stopped <;> constructor <;> simp [stopPart]

/-- R166, R167: what a completed start leaves of its actions, as the law of the phase reads it. -/
theorem completeStart_phased (s : State) : (completeStart s).phased
    = { (startActions s).phased with phase := .inService, ready := true, selfTestPassed := some true } := by
  have entered (u : State) : (enterService u).phased = { u.phased with phase := .inService, selfTestPassed := some true } := rfl
  rw [completeStart, entered, (slotsMarked_reportStart _ _).phased]
  rfl

section
variable {s : State} (h : PhaseLaw s)
include h

theorem PhaseLaw.startActions (starting : s.phase = .starting) : (startActions s).retentionLost = false := by
  fun_cases Machine.startActions s
  case case1 => rfl
  case case2 warm => exact h.latchInStart starting (eq_false_of_ne_true warm)

theorem PhaseLaw.completeStart (starting : s.phase = .starting) : PhaseLaw (completeStart s) := by
  obtain ⟨phase, ready, passed, latch, -⟩ := Phased.mk.inj (completeStart_phased s)
  replace latch := latch.trans (h.startActions starting)
  exact {
    ready := iff_of_true ready phase
    fault := iff_of_false (by simp [phase]) (by simp [passed])
    latchInService := fun _ => latch
    latchInStart := fun _ _ => latch }

theorem PhaseLaw.selfTestFailed (starting : s.phase = .starting) :
    PhaseLaw { s with phase := .fault, selfTestPassed := some false } where
  ready := by simpa [starting] using h.ready
  fault := by simp
  latchInService := by simp
  latchInStart := by simp

end

/-! ### The link leaves the phase -/

theorem takeCommand_phased (st : Station) (data : List Byte) (s : State) : (takeCommand st data s).phased = s.phased :=
  (slotsMarked_judgeFrame (setInbox st none s) st data).phased

theorem arrive_phased (st : Station) (data : List Byte) (s : State) : (arrive st data s).phased = s.phased := by
  fun_cases arrive st data s
  case case3 => exact takeCommand_phased st _ s
  all_goals rfl

theorem requestStanding_phased (k : StandingNo) (s : State) : (requestStanding k s).phased = s.phased := by
  fun_cases requestStanding k s <;> rfl

theorem receiveFrame_phased (f : RxFrame) (s : State) : (receiveFrame f s).phased = s.phased := by
  fun_cases receiveFrame f s
  case case1 => exact arrive_phased _ _ s
  case case2 => exact requestStanding_phased _ s
  case case3 => rfl

theorem failAttempt_phased (s : State) : (failAttempt s).phased = s.phased := by fun_cases failAttempt s <;> rfl

theorem takeWaiting_phased (st : Station) (s : State) : (takeWaiting st s).phased = s.phased := by
  fun_cases takeWaiting st s
  case case1 => exact takeCommand_phased st _ s
  case case2 => rfl

/-- R168: the restart that follows an answer begins in service, where the latch is clear. -/
theorem PhaseLaw.answerSent {s : State} (h : PhaseLaw s) (serving : s.phase = .inService) (st : Station) :
    PhaseLaw (answerSent st s) := by
  fun_cases Machine.answerSent st s
  case case1 => exact phaseLaw_beginStart fun _ => h.latchInService serving
  case case2 => exact h.of_phased (takeWaiting_phased st _)

theorem PhaseLaw.completeAttempt {s : State} (h : PhaseLaw s) (serving : s.phase = .inService) (fall : ErrorFall) (straps : Straps) :
    PhaseLaw (completeAttempt fall straps s) := by
  fun_cases Machine.completeAttempt fall straps s
  case case1 att _ st _ => exact (h.of_phased (t := endAttempt att.slot fall straps s) rfl).answerSent serving st
  case case2 => exact h.of_phased rfl
  case case3 => exact h

/-! ### Both laws -/

structure LinkAndPhase (s : State) : Prop where
  link : LinkLaw s
  phase : PhaseLaw s

/-- R166: the last of step 5 changes nothing of the slots. -/
theorem SlotsMarked.enterService {u v : State} (m : SlotsMarked u v) : SlotsMarked (enterService u) (enterService v) where
  linked := congrArg (fun l : Phased × OnBus =>
    ({ l.1 with phase := .inService, selfTestPassed := some true }, { l.2 with phase := .inService, link := .onBus })) m.linked
  answerSlots := m.answerSlots
  marked := m.marked

section
variable {s t : State} (h : LinkAndPhase s)
include h

/-- What an owner takes in service keeps both laws. -/
theorem LinkAndPhase.of_marked (serving : s.phase = .inService) (m : SlotsMarked s t) : LinkAndPhase t where
  link := h.link.of_marked m fun off => absurd off (h.link.joined serving)
  phase := h.phase.of_phased m.phased

theorem LinkAndPhase.of_eq (linked : t.linked = s.linked) (slots : t.slots = s.slots) : LinkAndPhase t where
  link := h.link.of_onBus (congrArg Prod.snd linked) slots
  phase := h.phase.of_phased (congrArg Prod.fst linked)

/-- A start joins the bus with the slots, inboxes and answers that its beginning has emptied, but for its notices (R155, R163). -/
theorem LinkAndPhase.completeStart (starting : s.phase = .starting) : LinkAndPhase (completeStart s) where
  phase := h.phase.completeStart starting
  link := by
    have off : s.link = .offBus := h.link.inService.2 (by simp [starting])
    have acted : (startActions s).onBus = s.onBus ∧ (startActions s).slots = s.slots := by
      fun_cases startActions s <;> exact ⟨rfl, rfl⟩
    have sampled : LinkLaw (sampleHalt (startActions s)) := h.link.of_onBus acted.1 acted.2
    have joined : LinkLaw (enterService (sampleHalt (startActions s))) :=
      { sampled with
        inService := iff_of_false (by decide : LinkState.onBus ≠ .offBus) (not_not.2 rfl)
        sendsOnBus := fun _ => rfl
        emptyOffBus := fun joined => absurd joined (by decide : LinkState.onBus ≠ .offBus) }
    exact joined.of_marked (slotsMarked_reportStart _ _).enterService fun joined =>
      absurd joined (by decide : LinkState.onBus ≠ .offBus)

theorem LinkAndPhase.exec {c : Instr} (next : exec c s = .next t) : LinkAndPhase t := by
  have serving (on : s.link = .onBus) : s.phase = .inService := h.link.inService_of_joined (by simp [on])
  cases c <;> cases next
  case remoteRequest k => exact ⟨linkLaw_requestStanding h.link k, h.phase.of_phased (requestStanding_phased k s)⟩
  case ignoredFrame f => exact ⟨linkLaw_receiveFrame h.link f, h.phase.of_phased (receiveFrame_phased f s)⟩
  case attemptStart =>
    refine iteInduction (fun due => ?_) fun _ => h
    simp only [Bool.and_eq_true, decide_eq_true_eq, Option.isNone_iff_eq_none] at due
    obtain ⟨on, free⟩ := due
    split
    · next found =>
      exact ⟨h.link.startAttempt on free (by simpa using List.find?_some found), h.phase.of_phased rfl⟩
    · exact h
  case attemptCompletion fall straps =>
    exact iteInduction (fun on => ⟨h.link.completeAttempt fall straps, h.phase.completeAttempt (serving on) fall straps⟩) fun _ => h
  case arbitrationLoss => exact iteInduction (fun _ => ⟨h.link.failAttempt, h.phase.of_phased (failAttempt_phased s)⟩) fun _ => h
  case busError tecRise recRise =>
    exact iteInduction (fun on => ⟨h.link.sufferBusError (by simp [on]) tecRise recRise, h.phase.of_phased (failAttempt_phased s)⟩)
      fun _ => h
  case busOffRecovery => exact iteInduction (fun off => ⟨h.link.busOffRecovered off, h.phase.of_phased rfl⟩) fun _ => h
  case secondEvent => exact iteInduction (fun serving => h.of_marked serving (slotsMarked_takeSecond s)) fun _ => h
  case pourWindowExpiry n =>
    refine iteInduction (fun due => ?_) fun _ => h
    simp only [Bool.and_eq_true, decide_eq_true_eq] at due
    exact h.of_marked due.1 (slotsMarked_expireWindow s n)
  case claimExpiry =>
    refine iteInduction (fun due => ?_) fun _ => h
    simp only [Bool.and_eq_true, decide_eq_true_eq] at due
    exact h.of_marked due.1 (slotsMarked_expireClaims s)
  case intervalEvent =>
    refine iteInduction (fun due => ?_) fun _ => h
    simp only [Bool.and_eq_true, decide_eq_true_eq] at due
    exact (h.of_marked due.1.1 (slotsMarked_takeInterval s)).of_eq rfl rfl
  case phChange asserted => exact h.of_eq rfl rfl
  case haltAssertionRegistered =>
    exact iteInduction (fun due => h.of_marked (State.registers_iff.1 due).1 (slotsMarked_registration s true)) fun _ => h
  case haltReleaseRegistered =>
    exact iteInduction (fun due => h.of_marked (State.registers_iff.1 due).1 (slotsMarked_registration s false)) fun _ => h
  case powerOn straps | resetRelease straps =>
    exact iteInduction (fun _ => ⟨linkLaw_beginStart _ _, phaseLaw_beginStart_latch straps⟩) fun _ => h
  case mainPowerLoss =>
    refine iteInduction (fun _ => h) fun _ => LinkAndPhase.of_eq (s := stopPart .unpowered s) ⟨?_, ?_⟩ rfl rfl
    · exact linkLaw_stopPart (by decide) s
    · exact phaseLaw_stopPart (.inr rfl) s
  case vbakBelowRetention =>
    refine ⟨h.link.of_onBus rfl rfl, ?_⟩
    split_ifs with unpowered
    · exact { h.phase with
        latchInService := fun serving => absurd (unpowered.symm.trans serving) (by decide)
        latchInStart := fun starting => absurd (unpowered.symm.trans starting) (by decide) }
    · exact h.phase
  case resetAssertionRegistered =>
    exact iteInduction (fun _ => h) fun _ => ⟨linkLaw_stopPart (by decide) s, phaseLaw_stopPart (.inl rfl) s⟩
  case selfTest passed =>
    refine iteInduction (fun starting => ?_) fun _ => h
    cases passed
    · have off : s.link = .offBus := h.link.inService.2 (by simp [starting])
      exact ⟨{ h.link with inService := iff_of_true off (by decide : Phase.fault ≠ .inService) }, h.phase.selfTestFailed starting⟩
    · exact h.completeStart starting
  all_goals exact ⟨linkLaw_arrive h.link _ _, h.phase.of_phased (arrive_phased _ _ s)⟩

end

/-- Settles O53: both laws hold of what every operation of the link and every taking and event leaves. -/
theorem stepsKeepLinkAndPhase : Obligations.StepsKeepLinkAndPhase := by
  intro s t link phase next
  have kept : LinkAndPhase t := by
    unfold step at next
    split at next
    · cases next
      exact ⟨link, phase⟩
    · refine LinkAndPhase.exec ?_ next
      exact LinkAndPhase.of_eq (s := s) ⟨link, phase⟩ rfl rfl
  exact ⟨kept.link, kept.phase⟩

end Sys2Proof.Machine
end

section
/-! ## The arguments of command frames (R143, R144, R146) -/

namespace Sys2Proof.Machine

open Sys2Proof

/-! ### Fields of bytes and the values that they hold -/

theorem toNat_byte {n : Nat} (fits : n < 256) : (BitVec.ofNat 8 n).toNat = n := by
  rw [BitVec.toNat_ofNat]
  exact Nat.mod_eq_of_lt fits

section
variable {n : Nat}

theorem beNat_u16 (fits : n < 65536) : beNat (u16 n) = n := by
  simp only [u16, beNat, List.foldl_cons, List.foldl_nil, BitVec.toNat_ofNat]
  omega

theorem beNat_u24 (fits : n < 16777216) : beNat (u24 n) = n := by
  simp only [u24, beNat, List.foldl_cons, List.foldl_nil, BitVec.toNat_ofNat]
  omega

theorem beNat_u32 (fits : n < 4294967296) : beNat (u32 n) = n := by
  simp only [u32, beNat, List.foldl_cons, List.foldl_nil, BitVec.toNat_ofNat]
  omega

/-- The two bytes of a field, put together again. -/
theorem append_bytes (fits : n < 65536) : (BitVec.ofNat 8 (n / 256) ++ BitVec.ofNat 8 n : BitVec 16) = BitVec.ofNat 16 n := by
  apply BitVec.eq_of_toNat_eq
  rw [BitVec.toNat_append, ← Nat.shiftLeft_add_eq_or_of_lt (BitVec.isLt _), Nat.shiftLeft_eq]
  simp only [BitVec.toNat_ofNat]
  omega

theorem beInt_bytes (fits : n < 65536) :
    beInt (BitVec.ofNat 8 (n / 256)) (BitVec.ofNat 8 n) = if n < 32768 then (n : Int) else (n : Int) - 65536 := by
  rw [beInt, append_bytes fits, BitVec.toInt_eq_toNat_cond, BitVec.toNat_ofNat]
  split_ifs <;> omega

end

theorem beInt_s16 {t : Int} (low : -32768 ≤ t) (high : t ≤ 32767) :
    beInt (BitVec.ofNat 8 ((BitVec.ofInt 16 t).toNat / 256)) (BitVec.ofNat 8 (BitVec.ofInt 16 t).toNat) = t := by
  rw [beInt_bytes (BitVec.isLt _), BitVec.toNat_ofInt]
  split_ifs <;> omega

/-! ### Frames shorter than the layout (R144) -/

section
variable {args : List Byte}

theorem oneByte?_of_short (short : args.length < 1) : oneByte? args = none := by
  rw [List.length_eq_zero_iff.1 (Nat.lt_one_iff.1 short)]
  rfl

theorem twoBytes?_and_kindSet?_of_short (short : args.length < 2) : twoBytes? args = none ∧ kindSet? args = none := by
  match args, short with
  | [], _ | [_], _ => exact ⟨rfl, rfl⟩

theorem recipeWrite?_and_parameter?_of_short (short : args.length < 4) : recipeWrite? args = none ∧ parameter? args = none := by
  match args, short with
  | [], _ | [_], _ | [_, _], _ | [_, _, _], _ => exact ⟨rfl, rfl⟩

end

theorem kindSet?_u16 {n : Nat} (fits : n < 65536) (rest : List Byte) :
    kindSet? (u16 n ++ rest) = if n < 8192 then some (BitVec.ofNat 13 n) else none := by
  show (if beNat (u16 n) < 8192 then some (BitVec.ofNat 13 (beNat (u16 n))) else none) = _
  rw [beNat_u16 fits]

/-- Settles O3: each reader gives back the bytes of its layout, field by field, and the bytes of a field give back its value. -/
theorem argumentsOfFrames : Obligations.ArgumentsOfFrames := by
  refine ⟨fun m w k c rest hm hw hk hc => ?_, fun n rest hn => ?_, fun n k rest hn hk => ?_, fun b t rest hb low high => ?_,
    fun b b' t t' rest hb low high => ?_, fun n rest hn => ?_, fun n t m rest hn ht hm => ?_, fun n rest hn => ?_,
    fun n m rest hn hm => ?_, fun r f v rest hr hf hv => ?_, fun n rest hn => ?_, fun p i v rest hp hi hv => ?_,
    fun n p rest hn hp => ?_, fun k p r rest hk hp hr => ?_, fun k p hk hp => ?_, fun n rest hn => ?_, fun n rest above hn => ?_,
    fun a => ⟨fun short => ?_, oneByte?_of_short, fun short => ?_, fun short => ?_, confirmation?_of_short, extension?_of_short,
      fun short => ?_⟩⟩
  · show some (DoseRequest.mk (beNat (u16 m)) (beNat (u16 w)) _ _) = _
    rw [beNat_u16 hm, beNat_u16 hw, toNat_byte hk, toNat_byte hc]
  · exact congrArg some (toNat_byte hn)
  · show some (_, _) = _
    rw [toNat_byte hn, toNat_byte hk]
  · show some (_, _) = _
    rw [toNat_byte hb, beInt_s16 low high]
  · show some (_, _) = _
    rw [toNat_byte hb, beInt_s16 low high]
  · exact congrArg some (beNat_u16 hn)
  · show some (Confirmation.mk (beNat (u24 n)) (beNat (u16 t)) (beNat (u16 m))) = _
    rw [beNat_u24 hn, beNat_u16 ht, beNat_u16 hm]
  · exact congrArg some (beNat_u24 hn)
  · show some (beNat (u24 n), beNat (u16 m)) = _
    rw [beNat_u24 hn, beNat_u16 hm]
  · show some (_, _, beNat (u16 v), _) = _
    rw [toNat_byte hr, toNat_byte hf, beNat_u16 hv, beInt_bytes hv]
  · exact congrArg some (beNat_u32 hn)
  · show some (_, _, beNat (u16 v)) = _
    rw [toNat_byte hp, toNat_byte hi, beNat_u16 hv]
  · show some (beNat (u24 n), _) = _
    rw [beNat_u24 hn, toNat_byte hp]
  · show some (_, _, _) = _
    rw [toNat_byte hk, toNat_byte hp, toNat_byte hr]
  · show some (_, _, _) = _
    rw [toNat_byte hk, toNat_byte hp]
  · rw [kindSet?_u16 (by omega), if_pos hn]
  · rw [kindSet?_u16 hn, if_neg (Nat.not_lt.2 above)]
  · exact ⟨doseRequest?_of_short short, secondReading?_of_short short⟩
  · obtain ⟨bytes, kinds⟩ := twoBytes?_and_kindSet?_of_short short
    exact ⟨bytes, truck?_of_short short, recordPage?_of_short short, kinds⟩
  · exact ⟨firstReading?_of_short short, serial?_of_short short⟩
  · obtain ⟨write, parameter⟩ := recipeWrite?_and_parameter?_of_short short
    exact ⟨write, minute?_of_short short, parameter, lotPage?_of_short short⟩

end Sys2Proof.Machine
end

section
/-! ## The frames sent (R141 to R147) -/

namespace Sys2Proof.Machine

open Sys2Proof

/-! ### Answers -/

/-- R145: the results of every command fit the six bytes that an answer has for them. -/
theorem Results.fields_length_le (r : Results) : r.fields.length ≤ 6 := by
  cases r <;> simp [Results.fields, u8, u16, u24, u32, s16, serialField, byteField, boolField, kindsField]

theorem Answer.bytes_eq (a : Answer) :
    a.bytes = [a.code, BitVec.ofNat 8 (statusByte a.status a.lost)] ++ a.results.fields
      ++ List.replicate (6 - a.results.fields.length) 0 := by
  have length : 8 - ([a.code] ++ u8 (statusByte a.status a.lost) ++ a.results.fields).length = 6 - a.results.fields.length := by
    simp only [u8, List.length_append, List.length_cons, List.length_nil]
    omega
  rw [Answer.bytes, filledTo, length]
  rfl

theorem Answer.bytes_length (a : Answer) : a.bytes.length = 8 := by
  have fits := a.results.fields_length_le
  simp only [Answer.bytes_eq, List.length_append, List.length_cons, List.length_nil, List.length_replicate]
  omega

/-- R145: the status code stands in bits 0 to 5 and the LOST mark in bit 7. -/
theorem statusByte_bits (status : Status) (lost : Bool) :
    (BitVec.ofNat 8 (statusByte status lost)).toNat % 64 = status.code
      ∧ (BitVec.ofNat 8 (statusByte status lost)).getLsbD 6 = false
      ∧ (BitVec.ofNat 8 (statusByte status lost)).getLsbD 7 = lost := by
  cases status <;> cases lost <;> decide

/-! ### Identifiers (Tables 9–1, 9–2) -/

theorem identBase_le (p : Straps) : identBase p ≤ 0x400 := by
  have := p.sa1.toNat_le
  have := p.sa0.toNat_le
  rw [identBase]
  omega

/-- The identifier base by the straps' levels. -/
theorem identBase_eq (p : Straps) : identBase p = match p.sa1, p.sa0 with
    | false, false => 0x100
    | false, true => 0x200
    | true, false => 0x300
    | true, true => 0x400 := by
  cases sa1 : p.sa1 <;> cases sa0 : p.sa0 <;> simp [identBase, sa1, sa0]

theorem TxFrame.ident_le (base : Nat) (f : TxFrame) : f.ident base ≤ base + 0x41 := by
  cases f <;> simp only [TxFrame.ident] <;> omega

/-- Settles O4: the layouts are the model's own definitions, an answer's results fit its six bytes, and the greatest identifier is that
of LANE 15 over the greatest base. -/
theorem framesSent : Obligations.FramesSent := by
  refine ⟨fun a => ⟨a.bytes_length, ?_, ?_, ?_, ?_⟩, ⟨rfl, rfl, rfl, rfl, rfl⟩, fun c w a e => ⟨rfl, rfl⟩,
    fun serial position remaining b before st permit halt => ⟨rfl, rfl, rfl, rfl⟩,
    fun count occupancy first second locked b => ⟨?_, ?_, rfl⟩,
    fun k field condition minute id index number value enabled => ⟨rfl, rfl, rfl, rfl, rfl, rfl⟩,
    fun serial b margin records queue => ⟨?_, rfl, rfl⟩,
    fun serial queue occupancy maxAge b st later reason => ⟨rfl, rfl, rfl, rfl, rfl⟩,
    fun kinds mask cause => ⟨rfl, rfl⟩,
    fun st reason wet extended interrupted hotHeld n source chloride k bay position => ?_,
    fun a b c d => ⟨rfl, rfl, rfl, rfl, rfl, rfl, rfl, rfl⟩,
    fun serial truck source n k b wet extended interrupted hotHeld => ⟨rfl, rfl⟩,
    fun st unmasked kinds cause => ⟨rfl, rfl⟩,
    fun cause timeValid halt live queue claims records => rfl,
    fun serial b queue => ⟨rfl, rfl⟩,
    fun b locked stale capacity occupancy reading front => ?_,
    fun p st a unmasked kinds cause => ⟨rfl, rfl⟩,
    fun p cause timeValid halt live queue claims records serial head b locked stale capacity occupancy reading front =>
      ⟨rfl, rfl, ?_⟩,
    fun p f => (f.ident_le _).trans (Nat.add_le_add_right (identBase_le p) _),
    fun p => ?_⟩
  · rw [a.bytes_eq]
    rfl
  · refine ⟨BitVec.ofNat 8 (statusByte a.status a.lost), ?_, statusByte_bits a.status a.lost⟩
    rw [a.bytes_eq]
    rfl
  · rw [a.bytes_eq]
    rfl
  · intro none
    rw [a.bytes_eq, none]
    rfl
  · cases first <;> rfl
  · cases first <;> cases second <;> rfl
  · rw [Nat.min_comm]
    rfl
  · cases bay <;> cases position <;> rfl
  · cases reading <;> cases front <;> rfl
  · show identBase p + 0x32 + b.val = _
    omega
  · simp +contextual [identBase_eq, bitRate]

end Sys2Proof.Machine
end

section
/-! ## Arrivals, roles and refusals (R148 to R150, R154) -/

namespace Sys2Proof.Machine

open Sys2Proof

/-! ### Where an arriving frame goes -/

section
variable {st : Station} {data : List Byte} {s : State}

theorem arrive_of_notOnBus (off : s.link ≠ .onBus) : arrive st data s = s := if_pos off

variable (fits : dataFits data = true)
include fits

theorem take_of_dataFits : data.take Config.frameBytes = data := List.take_of_length_le (of_decide_eq_true fits)

variable (on : s.link = .onBus)
include on

theorem arrive_of_waiting {old : List Byte} (waits : s.inboxes[st] = some old) :
    arrive st data s = replaceWaiting st data s := by
  simp [arrive, on, waits, take_of_dataFits fits]

variable (empty : s.inboxes[st] = none)
include empty

theorem arrive_of_engaged (engaged : s.slots[answerSlot st] ≠ .empty) : arrive st data s = setInbox st (some data) s := by
  simp only [arrive, on, empty, if_neg engaged, take_of_dataFits fits]
  rfl

theorem arrive_of_free (free : s.slots[answerSlot st] = .empty) :
    arrive st data s = placeAnswer st (echoOf data) (judgeFrame st data s) :=
  arrive_of_takesAtOnce ⟨on, empty, free⟩ (of_decide_eq_true fits)

end

/-- Settles O5: the four ways of an arrival, by the link, the inbox and the answer slot. -/
theorem frameArrival : Obligations.FrameArrival := by
  intro st data s fits
  show (_ → Host.Outcome.next (arrive st data s) = _) ∧ (_ → (∀ old, _ → Host.Outcome.next (arrive st data s) = _)
    ∧ (_ → _ → Host.Outcome.next (arrive st data s) = _) ∧ (_ → _ → Host.Outcome.next (arrive st data s) = _))
  refine ⟨fun off => ?_, fun on => ⟨fun old waits => ?_, fun empty engaged => ?_, fun empty free => ?_⟩⟩
  · rw [arrive_of_notOnBus off]
  · rw [arrive_of_waiting fits on waits]
    rfl
  · rw [arrive_of_engaged fits on empty engaged]
    rfl
  · rw [arrive_of_free fits on empty free]
    rfl

/-! ### What an owner answers -/

/-- An owner answers neither NOT_PERMITTED nor UNKNOWN_COMMAND, and a command it refuses changes nothing (R148; 00_scope, "refused"). -/
def Taken.ByOwner (s : State) (t : Taken) : Prop :=
  (t.status ≠ .notPermitted ∧ t.status ≠ .unknownCommand) ∧ (t.status = .ok ∨ t.status = .okWet ∨ t.state = s)

@[simp] theorem byOwner_accept (results : Results) (s t : State) : (accept results t).ByOwner s := by
  simp [accept, Taken.ByOwner]

@[simp] theorem byOwner_refuse (status : Status) (s : State) :
    (refuse status s).ByOwner s ↔ status ≠ .notPermitted ∧ status ≠ .unknownCommand := by
  simp [refuse, Taken.ByOwner]

@[simp] theorem byOwner_mk (status : Status) (results : Results) (s t : State) : Taken.ByOwner s ⟨status, results, t⟩
    ↔ (status ≠ .notPermitted ∧ status ≠ .unknownCommand) ∧ (status = .ok ∨ status = .okWet ∨ t = s) := Iff.rfl

section
variable (s : State)

theorem byOwner_doseWith (n : Line) (q : DoseRequest) (k : RecipeNo) : (doseWith n q k s).ByOwner s := by
  have own : (doseWith n q k s).status ≠ .notPermitted ∧ (doseWith n q k s).status ≠ .unknownCommand := by
    rw [doseWith_status]
    unfold doseStatus
    split_ifs <;> decide
  refine ⟨own, ?_⟩
  unfold doseWith
  dsimp only
  split <;> simp

theorem byOwner_takeSpar (args : List Byte) : (takeSpar args s).ByOwner s := by
  fun_cases takeSpar args s
  case case2 index value _ => fun_cases takeCementMax index value s <;> simp [acceptParameter]
  case case3 index value _ => fun_cases takeWaterMax index value s <;> simp [acceptParameter]
  case case4 index value _ => fun_cases takeAdditiveMax index value s <;> simp [acceptParameter]
  case case5 index value _ => fun_cases takeStaleLimit index value s <;> simp
  case case6 index value _ => fun_cases takeBayCapacity index value s <;> simp
  case case7 index value _ => fun_cases takeClaimTimeout index value s <;> simp
  all_goals simp

theorem byOwner_deliver (c : CommandCode) (st : Station) (args : List Byte) : (deliver c st args s).ByOwner s := by
  cases c <;> unfold deliver <;> dsimp only
  case dosq => fun_cases takeDosq (lineOf st) args s <;> simp [byOwner_doseWith]
  case dsch => fun_cases takeDsch (lineOf st) args s <;> simp
  case abdn => fun_cases takeAbdn (lineOf st) s <;> simp
  case tmpr => fun_cases takeTmpr args s <;> simp
  case clnx => fun_cases takeClnx args s <;> simp
  case cnfm => fun_cases takeCnfm args s <;> simp
  case rtrn => fun_cases takeRtrn args s <;> simp
  case hold => fun_cases takeHold args s <;> simp
  case unhd => fun_cases takeUnhd args s <;> simp
  case rjct => fun_cases takeRjct args s <;> simp
  case clrb => fun_cases takeClrb args s <;> simp
  case extd => fun_cases takeExtd args s <;> simp
  case lock => unfold takeLock; fun_cases takeLaneLock true args s <;> simp
  case ulck => unfold takeUlck; fun_cases takeLaneLock false args s <;> simp
  case rcpw => fun_cases takeRcpw args s <;> simp
  case rcpe => fun_cases takeRcpe args s <;> simp
  case rcpd => fun_cases takeRcpd args s <;> simp
  case rcpr => fun_cases takeRcpr args s <;> simp
  case stim => fun_cases takeStim args s <;> simp
  case spar => exact byOwner_takeSpar s args
  case qlot => fun_cases takeQlot args s <;> simp
  case qrel => fun_cases takeQrel args s <;> simp
  case atcl => fun_cases takeAtcl st args s <;> simp
  case atmk => fun_cases takeAtmk st args s <;> simp
  case atrd | qlin | rstw | rstc => exact byOwner_accept _ s _

end

/-- A frame that is refused, by the link interface or by an owner, changes nothing. -/
theorem judgeFrame_refused {st : Station} {data : List Byte} {s : State} (notOk : (judgeFrame st data s).status ≠ .ok)
    (notWet : (judgeFrame st data s).status ≠ .okWet) : (judgeFrame st data s).state = s := by
  revert notOk notWet
  fun_cases judgeFrame st data s
  case case3 args c _ _ => exact fun notOk notWet => ((byOwner_deliver s c st args).2.resolve_left notOk).resolve_left notWet
  all_goals exact fun _ _ => rfl

theorem answers_answered (st : Station) (code : Byte) (status : Status) (results : Results) (t : State) :
    (answered st code status results t).answers[st] = some ⟨code, status, t.lostMarks[st], results⟩ := by
  rw [answered, getElem_set_fin, if_pos rfl]

/-- Settles O6: an owner that refuses changes nothing, so the answer is all there is. -/
theorem refusalsChangeNothing : Obligations.RefusalsChangeNothing := by
  intro st data s t atOnce fits next
  obtain ⟨on, empty, free⟩ := atOnce
  have taken : arrive st data s = t := Host.Outcome.next.inj next
  rw [arrive_of_free fits on empty free, placeAnswer_eq] at taken
  subst taken
  have lost : (judgeFrame st data s).state.lostMarks = s.lostMarks :=
    congrArg OnBus.lostMarks (slotsMarked_judgeFrame s st data).onBus
  refine ⟨_, answers_answered st _ _ _ _, rfl, ?_, fun notOk notWet => ?_⟩
  · simp only [lost]
  · rw [judgeFrame_refused notOk notWet, answered, free]
    rfl

/-! ### Roles -/

theorem commandBytes_eq : commandBytes = allCommands.map (·.byte) := rfl

theorem mem_commandBytes_iff {code : Byte} : code ∈ commandBytes ↔ ∃ c : CommandCode, c.byte = code := by
  have all (c : CommandCode) : c ∈ allCommands := by cases c <;> decide
  simp [commandBytes_eq, all]

theorem commandOf?_eq_none {code : Byte} (unknown : code ∉ commandBytes) : commandOf? code = none := by
  simpa [commandOf?, commandBytes_eq] using unknown

/-- Table 9–9 as the codes that a station may send. -/
theorem permits_iff (c : CommandCode) (st : Station) : c.permits (roleOf st) = true ↔ c.byte ∈ permittedCodes st := by
  revert st
  cases c <;> decide

theorem permittedCodes_subset (st : Station) : permittedCodes st ⊆ commandBytes := by
  revert st
  decide

section
variable {st : Station} {code : Byte} (args : List Byte) (s : State)

theorem judgeFrame_of_unknown (unknown : code ∉ commandBytes) :
    judgeFrame st (code :: args) s = refuse .unknownCommand s := by
  simp only [judgeFrame, commandOf?_eq_none unknown]

theorem judgeFrame_of_command (c : CommandCode) : judgeFrame st (c.byte :: args) s
    = if c.byte ∈ permittedCodes st then deliver c st args s else refuse .notPermitted s := by
  simp only [judgeFrame, commandOf?_byte, permits_iff]

end

/-- Settles O7: the link interface judges by the code and the station alone, and no owner gives its two answers. -/
theorem rolesAndUnknownCodes : Obligations.RolesAndUnknownCodes := by
  intro st s atOnce
  obtain ⟨on, empty, free⟩ := atOnce
  have taken {data : List Byte} (fits : dataFits data = true) := arrive_of_free fits on empty free
  refine ⟨congrArg Host.Outcome.next (taken rfl), fun code args fits => ?_⟩
  have fits' : dataFits (code :: args) = true := by
    simp only [argsFit, Config.frameBytes, decide_eq_true_eq] at fits
    simp only [dataFits, Config.frameBytes, List.length_cons, decide_eq_true_eq]
    omega
  refine ⟨fun unknown => ?_, fun known forbidden => ?_, fun permitted => ?_⟩
  · show Host.Outcome.next (arrive st (code :: args) s) = _
    rw [taken fits', judgeFrame_of_unknown args s unknown]
    rfl
  · obtain ⟨c, rfl⟩ := mem_commandBytes_iff.1 known
    show Host.Outcome.next (arrive st (c.byte :: args) s) = _
    rw [taken fits', judgeFrame_of_command, if_neg forbidden]
    rfl
  · obtain ⟨c, rfl⟩ := mem_commandBytes_iff.1 (permittedCodes_subset st permitted)
    refine ⟨_, _, congrArg Host.Outcome.next (taken fits'), answers_answered st _ _ _ _, ?_⟩
    rw [judgeFrame_of_command, if_pos permitted]
    exact (byOwner_deliver s c st args).1

end Sys2Proof.Machine
end

section
/-! ## The bus: remote requests, attempts, bus errors (R141, R142, R150 to R154) -/

namespace Sys2Proof.Machine

open Sys2Proof

/-! ### Frames that are no commands -/

theorem exec_remoteRequest_of_onBus {s : State} (on : s.link = .onBus) (k : StandingNo) : exec (.remoteRequest k) s
    = .next { s with slots := s.slots.set (standingSlot k) s.slots[standingSlot k].mark } :=
  congrArg Host.Outcome.next (if_neg (not_not.2 on))

theorem exec_remoteRequest_of_notOnBus {s : State} (off : s.link ≠ .onBus) (k : StandingNo) : exec (.remoteRequest k) s = .next s :=
  congrArg Host.Outcome.next (if_pos off)

/-! #### What the part makes of a frame -/

section
variable {base : Nat} {f : RxFrame}

theorem classify_of_unusable (unusable : f.busError = true ∨ f.extended = true) : classify base f = .ignored := by
  simp [classify, unusable]

theorem classify_of_otherRemote (remote : f.remote = true) (outside : f.ident < base + 0x30 ∨ base + 0x41 < f.ident) :
    classify base f = .ignored := by
  have none : ¬(base + 0x30 ≤ f.ident ∧ f.ident < base + 0x30 + 18) := by omega
  simp only [classify, remote, dif_neg none, if_true, ite_self]

theorem classify_of_otherData (data : f.remote = false) (outside : f.ident < base ∨ base + 6 < f.ident) :
    classify base f = .ignored := by
  have none : ¬(base ≤ f.ident ∧ f.ident < base + 7) := by omega
  simp only [classify, data, dif_neg none, Bool.false_eq_true, if_false, ite_self]

variable (sound : f.busError = false) (standard : f.extended = false)
include sound standard

theorem classify_of_request (remote : f.remote = true) {k : StandingNo} (ident : f.ident = base + 0x30 + k.val) :
    classify base f = .remoteRequest k := by
  simp [classify, sound, standard, remote, ident]

theorem classify_of_command (data : f.remote = false) {st : Station} (ident : f.ident = base + st.val) :
    classify base f = .command st := by
  simp [classify, sound, standard, data, ident]

end

section
variable {f : RxFrame} {s : State}

theorem exec_ignoredFrame_of_ignored (h : classify (identBase s.straps) f = .ignored) : exec (.ignoredFrame f) s = .next s :=
  congrArg Host.Outcome.next (by simp only [receiveFrame, h])

theorem exec_ignoredFrame_of_request {k : StandingNo} (h : classify (identBase s.straps) f = .remoteRequest k) :
    exec (.ignoredFrame f) s = exec (.remoteRequest k) s :=
  congrArg Host.Outcome.next (by simp only [receiveFrame, h])

theorem exec_ignoredFrame_of_command {st : Station} (h : classify (identBase s.straps) f = .command st) :
    exec (.ignoredFrame f) s = exec (.commandFrameArrival st f.data) s :=
  congrArg Host.Outcome.next (by simp only [receiveFrame, h])

end

/-- Settles O41: the sampled straps give the base, and the base decides what a frame is. -/
theorem otherFramesOnTheBus : Obligations.OtherFramesOnTheBus := by
  refine ⟨fun k s => ⟨fun on => exec_remoteRequest_of_onBus on k, fun off => exec_remoteRequest_of_notOnBus off k⟩,
    ⟨rfl, rfl, rfl, rfl⟩, fun f s base table => ?_⟩
  obtain rfl : identBase s.straps = base := (identBase_eq s.straps).trans table.symm
  exact ⟨fun unusable => exec_ignoredFrame_of_ignored (classify_of_unusable unusable),
    fun remote outside => exec_ignoredFrame_of_ignored (classify_of_otherRemote remote outside),
    fun data outside => exec_ignoredFrame_of_ignored (classify_of_otherData data outside),
    fun sound standard remote k ident => exec_ignoredFrame_of_request (classify_of_request sound standard remote ident),
    fun sound standard data st ident => exec_ignoredFrame_of_command (classify_of_command sound standard data ident)⟩

/-! ### The start of an attempt -/

theorem slotNumbers_eq : slotNumbers = List.finRange 32 := rfl

/-- R152: the arbiter finds the lowest pending slot. -/
theorem lowestPending_eq_some {s : State} {i : SlotNo} (pending : s.slots[i] = .pending)
    (lowest : ∀ j : SlotNo, j < i → s.slots[j] ≠ .pending) : s.lowestPending = some i := by
  rw [State.lowestPending, slotNumbers_eq, List.find?_eq_some_iff_getElem]
  simp only [List.getElem_finRange, List.length_finRange, decide_eq_true_eq]
  exact ⟨pending, i.val, i.isLt, rfl, fun j less => by simpa using lowest ⟨j, less.trans i.isLt⟩ less⟩

theorem exec_attemptStart_of_pending {s : State} {i : SlotNo} (on : s.link = .onBus) (free : s.transmitter = none)
    (pending : s.slots[i] = .pending) (lowest : ∀ j : SlotNo, j < i → s.slots[j] ≠ .pending) :
    exec .attemptStart s = .next { s with slots := s.slots.set i .sending, transmitter := some ⟨i, compose i s⟩ } := by
  show execAttemptStart s = _
  simp only [execAttemptStart, on, free, Option.isNone_none, decide_true, Bool.and_true, if_true, lowestPending_eq_some pending lowest,
    startAttempt, pending, SlotState.start]

/-! ### What a frame carries -/

theorem answerStation?_answerSlot (st : Station) : answerStation? (answerSlot st) = some st := by
  revert st
  decide

theorem answerStation?_noticeSlot (st : Station) : answerStation? (noticeSlot st) = none := by
  revert st
  decide

theorem stations_standingSlot (k : StandingNo) :
    answerStation? (standingSlot k) = none ∧ noticeStation? (standingSlot k) = none := by
  revert k
  decide

section
variable (s : State)

theorem compose_answerSlot {st : Station} {a : Answer} (held : s.answers[st] = some a) : compose (answerSlot st) s = .answer st a := by
  simp only [compose, answerStation?_answerSlot, held, Option.getD_some]

theorem compose_noticeSlot (st : Station) : compose (noticeSlot st) s = composeNotice st s := by
  simp only [compose, answerStation?_noticeSlot, noticeStation?_noticeSlot]

/-! #### Standing frames (Table 9–12): 0 is STATUS, 1 QUEUE_HEAD, and 2 to 17 are the lanes -/

theorem compose_status : compose (standingSlot 0) s = composeStatus s := rfl

theorem compose_queueHead : compose (standingSlot 1) s = composeQueueHead s := rfl

theorem compose_lane (b : Bay) : compose (standingSlot ⟨b.val + 2, by omega⟩) s = composeLane b s := by
  obtain ⟨noAnswer, noNotice⟩ := stations_standingSlot ⟨b.val + 2, by omega⟩
  have notStatus : ¬14 + (b.val + 2) = 14 := by omega
  have notHead : ¬14 + (b.val + 2) = 15 := by omega
  have bay : (14 + (b.val + 2) - 16) % 16 = b.val := by omega
  unfold compose
  rw [noAnswer, noNotice]
  simp only [standingSlot, if_neg notStatus, if_neg notHead, bay]

theorem composeQueueHead_of_empty (empty : s.queue = []) : composeQueueHead s = .queueHead none none 0 := by
  simp [composeQueueHead, empty]

theorem composeQueueHead_of_lot {serial : Nat} {behind : List Nat} {l : Lot} {p : Place} (head : s.queue = serial :: behind)
    (found : s.lot? serial = some l) (at_p : l.place = some p) :
    composeQueueHead s = .queueHead (some serial) (some p.bay) s.queue.length := by
  simp [composeQueueHead, head, found, Lot.bay_of_place at_p]

end

/-- Settles O42: the arbiter's search, and the slots' contents by Table 9–12. -/
theorem attemptSendsLowestSlot : Obligations.AttemptSendsLowestSlot := by
  refine ⟨fun i s on free pending lowest => exec_attemptStart_of_pending on free pending lowest, fun s =>
    ⟨fun st a held => compose_answerSlot s held, compose_noticeSlot s, compose_status s, fun empty => ?_,
      fun serial behind l p head found at_p => ?_, compose_lane s⟩⟩
  · rw [compose_queueHead, composeQueueHead_of_empty s empty]
  · rw [compose_queueHead, composeQueueHead_of_lot s head found at_p]

/-! ### The end of an attempt -/

section
variable {s : State} {att : Attempt} (busy : s.transmitter = some att)
include busy

theorem failAttempt_of_busy (sends : s.slots[att.slot] = .sending ∨ s.slots[att.slot] = .sendingMarked) :
    failAttempt s = { s with slots := s.slots.set att.slot .pending, transmitter := none } := by
  simp only [failAttempt, busy, SlotState.fail_of_sends sends]

theorem completeAttempt_of_other (other : 7 ≤ att.slot.val) (fall : ErrorFall) (straps : Straps) :
    completeAttempt fall straps s = endAttempt att.slot fall straps s := by
  have none : answerStation? att.slot = none := dif_neg (Nat.not_lt.2 other)
  simp only [completeAttempt, busy, none]

theorem completeAttempt_of_answer {st : Station} (carries : att.slot = answerSlot st) (fall : ErrorFall) (straps : Straps) :
    completeAttempt fall straps s = answerSent st (endAttempt (answerSlot st) fall straps s) := by
  simp only [completeAttempt, busy, carries, answerStation?_answerSlot]

end

theorem restartAfter_eq_none {st : Station} {a : Answer}
    (plain : ¬(st = supervisorStation ∧ a.status = .ok ∧ (a.code = 0x4E ∨ a.code = 0x4F))) : restartAfter st (some a) = none := by
  by_cases ok : st = supervisorStation ∧ a.status = .ok
  · have notWarm : a.code ≠ CommandCode.rstw.byte := fun warm => plain ⟨ok.1, ok.2, .inl warm⟩
    have notCold : a.code ≠ CommandCode.rstc.byte := fun cold => plain ⟨ok.1, ok.2, .inr cold⟩
    simp only [restartAfter, if_pos ok, if_neg notWarm, if_neg notCold]
  · simp only [restartAfter, if_neg ok]

/-- R150, R151: what an answer that begins no restart leaves before the waiting command is taken. -/
theorem completeAttempt_of_plainAnswer {s : State} {att : Attempt} (busy : s.transmitter = some att) {st : Station}
    (carries : att.slot = answerSlot st) (sending : s.slots[answerSlot st] = .sending) {a : Answer} (held : s.answers[st] = some a)
    (plain : ¬(st = supervisorStation ∧ a.status = .ok ∧ (a.code = 0x4E ∨ a.code = 0x4F))) (fall : ErrorFall) (straps : Straps) :
    completeAttempt fall straps s = takeWaiting st { s with
      slots := s.slots.set (answerSlot st) .empty
      transmitter := none
      strapPins := straps
      transmitErrors := s.transmitErrors - fall.transmit
      receiveErrors := s.receiveErrors - fall.receive
      answers := s.answers.set st none } := by
  have ended : (endAttempt (answerSlot st) fall straps s).answers[st] = some a := held
  rw [completeAttempt_of_answer busy carries, answerSent, ended, restartAfter_eq_none plain, endAttempt, sending]
  rfl

/-- Settles O43: the attempt's slot by Table 9–13, and the waiting command's taking as that of a frame that arrives. -/
theorem attemptsEnd : Obligations.AttemptsEnd := by
  intro s att fall straps on busy
  refine ⟨fun sends => ?_, fun other sends => ?_, ?_⟩
  · show execArbitrationLoss s = _
    rw [execArbitrationLoss, if_pos on, failAttempt_of_busy busy sends]
  · show execAttemptCompletion fall straps s = _
    rw [execAttemptCompletion, if_pos on, completeAttempt_of_other busy other, endAttempt, SlotState.complete_of_sends sends]
  intro st a left carries sending held plain leaves
  have completed : exec (.attemptCompletion fall straps) s = .next (takeWaiting st left) := by
    show execAttemptCompletion fall straps s = _
    rw [execAttemptCompletion, if_pos on, completeAttempt_of_plainAnswer busy carries sending held plain, leaves]
  have inbox : left.inboxes[st] = s.inboxes[st] := by rw [leaves]
  rw [completed]
  refine ⟨fun empty => ?_, fun data waits fits => ?_⟩
  · simp only [takeWaiting, inbox, empty]
  · have free : left.slots[answerSlot st] = .empty := by rw [leaves, getElem_set_fin, if_pos rfl]
    have emptied : (setInbox st none left).inboxes[st] = none := by rw [setInbox, getElem_set_fin, if_pos rfl]
    have joined : left.link = .onBus := by rw [leaves, on]
    have taken : takeCommand st data left = arrive st data (setInbox st none left) :=
      (arrive_of_free (s := setInbox st none left) fits joined emptied free).symm
    simp only [takeWaiting, inbox, waits, taken]
    rfl

/-! ### Bus errors -/

/-- R154: the counts and the link after a bus error, on what the failed attempt leaves. -/
theorem exec_busError_of_onBus {s t : State} (on : s.link = .onBus) (failed : failAttempt s = t) (joined : t.link = .onBus)
    (tecRise recRise : Nat) : exec (.busError tecRise recRise) s = .next { t with
      transmitErrors := t.transmitErrors + tecRise
      receiveErrors := t.receiveErrors + recRise
      link := if 255 < t.transmitErrors + tecRise then .busOff else .onBus } := by
  show execBusError tecRise recRise s = _
  rw [execBusError, if_pos on, sufferBusError, failed, joined]

/-- Settles O44: a bus error on what its failed attempt leaves, and what bus-off does not take. -/
theorem busErrorsAndBusOff : Obligations.BusErrorsAndBusOff := by
  refine ⟨fun s att tecRise recRise on busy sends => ?_, fun s tecRise recRise on free => ?_, fun s off => ?_⟩
  · exact exec_busError_of_onBus on (failAttempt_of_busy busy sends) on tecRise recRise
  · have idle : failAttempt s = s := by simp only [failAttempt, free]
    exact exec_busError_of_onBus on idle on tecRise recRise
  have notOn : s.link ≠ .onBus := by simp [off]
  refine ⟨congrArg Host.Outcome.next (if_pos off), ?_, fun st data => congrArg Host.Outcome.next (arrive_of_notOnBus notOn),
    fun k => exec_remoteRequest_of_notOnBus notOn k⟩
  show execAttemptStart s = _
  simp [execAttemptStart, notOn]

end Sys2Proof.Machine
end

section
/-! ## The model's queue and the rows of the station commands (log entries 2 and 3) -/

namespace Sys2Proof.Machine

open Sys2Proof

theorem step_of_cons {s : State} {c : Instr} {rest : List Instr} (front : s.pending = c :: rest) :
    step s = exec c { s with pending := rest } := by
  simp only [step, front]

theorem step_of_nil {s : State} (empty : s.pending = []) : step s = .next s := by
  simp only [step, empty]

/-- Settles O1: the two ways of a step, by the queue. -/
theorem stepTakesTheFrontCommand : Obligations.StepTakesTheFrontCommand :=
  ⟨fun c rest s => step_of_cons (s := { s with pending := c :: rest }) (c := c) (rest := rest) rfl, fun _ => step_of_nil⟩

/-- A command row is the arrival of the command's code and its bytes. -/
theorem arriveCommand_eq (c : CommandCode) (st : Station) (args : List Byte) (s : State) :
    Host.Outcome.next (arriveCommand c st args s) = exec (.commandFrameArrival st (c.byte :: args)) s := rfl

/-- A row of SPAR is the arrival of SPAR's code, the parameter's identifier and its bytes. -/
theorem arriveParameter_eq (parameter : Byte) (st : Station) (args : List Byte) (s : State) :
    Host.Outcome.next (arriveParameter parameter st args s) = exec (.commandFrameArrival st (0x4D :: parameter :: args)) s := rfl

/-- Settles O2: the rows in the order of Table 9–4, each with its code. -/
theorem commandsAreTheirFrames : Obligations.CommandsAreTheirFrames := by
  intro st a s
  have row (c : CommandCode) := arriveCommand_eq c st a s
  have parameter (p : Byte) := arriveParameter_eq p st a s
  exact ⟨row .dosq, row .dsch, row .abdn, row .qlin, row .tmpr, row .clnx, row .cnfm, row .rtrn, row .hold, row .unhd, row .rjct,
    row .clrb, row .extd, row .lock, row .ulck, row .rcpw, row .rcpe, row .rcpd, row .rcpr, row .stim, parameter 0, parameter 1,
    parameter 2, parameter 3, parameter 4, parameter 5, row .rstw, row .rstc, row .qlot, row .qrel, row .atrd, row .atcl, row .atmk,
    rfl⟩

end Sys2Proof.Machine
end

section
/-! ## What a taking does to what the attention unit sees

The laws of attention read a few fields of the state. Each command that its owner takes leaves them, or is one of the acts listed here:
the law of the pending sets (R156) and that of the conditions (R157) are both shown act by act. -/

namespace Sys2Proof.Machine

open Sys2Proof

/-- The pending sets and the masks. -/
structure Heard where
  pending : Vector KindSet 7
  masks : Vector KindSet 7

def State.heard (s : State) : Heard where
  pending := s.pendingKinds
  masks := s.masks

/-- What the laws of attention read of a state, with the lanes' stale indications as BAY_STALE takes them together. -/
structure Seen where
  heard : Heard
  phase : Phase
  haltRegistered : Bool
  timeValid : Bool
  stale : Bool
  queue : List Nat
  lots : List Lot

def State.seen (s : State) : Seen where
  heard := s.heard
  phase := s.phase
  haltRegistered := s.haltRegistered
  timeValid := s.timeValid
  stale := s.anyStale
  queue := s.queue
  lots := s.lots

/-- What an owner's taking of a command makes of s: nothing that is seen, or one of these acts. -/
inductive OwnerActs (s : State) : State → Prop where
  | unseen {t : State} (same : t.seen = s.seen) : OwnerActs s t
  | opened (n : Line) (q : DoseRequest) (k : RecipeNo) : OwnerActs s (openDose n q k s)
  | discharged {n : Line} {serial remaining warning : Nat} (b : Bay) (line : s.lines[n] = .dosed serial remaining warning) :
    OwnerActs s (setLine n .idle (placeLot b serial s))
  | abandoned {n : Line} {serial : Nat} (line : s.lines[n].serial = some serial) : OwnerActs s (setLine n .idle (freeLot serial s))
  | read (b : Bay) (t : Int) : OwnerActs s (takeReading b t s)
  | readTwice (b b' : Bay) (t t' : Int) : OwnerActs s (takeReading b' t' (takeReading b t s))
  | timeSet (minute : Nat) : OwnerActs s (reportTime (zeroTimeBase (setPlantMinute minute s)))
  | claimed {serial : Nat} {behind : List Nat} (truck : Nat) (head : s.queue = serial :: behind) : OwnerActs s (claimHead serial truck s)
  | confirmed {l : Lot} (truck netMass : Nat) (mem : l ∈ s.lots) (state : l.state = .claimed) : OwnerActs s (confirmLot l truck netMass s)
  | returned {l : Lot} (mem : l ∈ s.lots) (state : l.state = .claimed) : OwnerActs s (reportQueue (returnClaim l.serial s))
  | held {l : Lot} (mem : l ∈ s.lots) : OwnerActs s (holdLot l.serial s)
  | heldClaimed {l : Lot} (mem : l ∈ s.lots) (state : l.state = .claimed) : OwnerActs s (holdClaimed l.serial s)
  | unheld {l : Lot} (mem : l ∈ s.lots) : OwnerActs s (unholdLot l s)
  | voided {l : Lot} (mem : l ∈ s.lots) (state : l.state = .dosed) : OwnerActs s (voidDose l.line l.serial s)
  | rejected {l : Lot} (mem : l ∈ s.lots) (state : l.state.credited = true) : OwnerActs s (rejectLot l s)
  | cleared {b : Bay} {front : Nat} {behind : List Nat} (lane : s.lanes[b].lots = front :: behind)
    (state : s.frontRejected s.lanes[b] = true) : OwnerActs s (handOver b (removeFront b s))
  | extended {l : Lot} (minutes : Nat) (mem : l ∈ s.lots) (state : l.state = .curing ∨ l.state = .overdue) :
    OwnerActs s (extendLot l minutes s)
  | forgotten {st : Station} {left : KindSet} (fewer : ∀ k : AttnKind, left.has k = true → s.pendingKinds[st].has k = true)
    (latched : ∀ k : AttnKind, k.isCondition = true → left.has k = s.pendingKinds[st].has k) :
    OwnerActs s (setPendingKinds st left s)
  | masked {st : Station} {mask : KindSet} (within : ∀ k : AttnKind, mask.has k = true → receives st k = true ∧ k ≠ .restarted) :
    OwnerActs s (setMask st mask s)

/-! ### The sets of ATCL and ATMK -/

/-- The set of a test holds the kinds that pass it. -/
theorem has_kindsThat (p : AttnKind → Bool) (k : AttnKind) : (kindsThat p).has k = p k := by
  have adds (kinds : List AttnKind) (acc : KindSet) :
      (kinds.foldl (fun acc k => if p k then KindSet.insert acc k else acc) acc).has k = (acc.has k || decide (k ∈ kinds) && p k) := by
    induction kinds generalizing acc with
    | nil => simp
    | cons j rest ih =>
      rw [List.foldl_cons, ih]
      by_cases self : k = j
      · subst self
        cases p k <;> simp
      · cases p j <;> simp [self]
  have listed : k ∈ allKinds := by cases k <;> decide
  rw [kindsThat, adds, KindSet.has_empty, decide_eq_true listed, Bool.false_or, Bool.true_and]

theorem has_maskable (st : Station) (k : AttnKind) : (maskable st).has k = decide (receives st k = true ∧ k ≠ .restarted) := by
  simp [maskable, has_kindsThat]

theorem has_clearable (k : AttnKind) : clearable.has k = decide (k.isCondition = false ∧ k ≠ .restarted) := by
  simp [clearable, has_kindsThat]

/-- What ATCL leaves of a pending set (R161). -/
theorem has_cleared (held named : KindSet) (k : AttnKind) : KindSet.has (held &&& ~~~ (named &&& clearable)) k
    = (held.has k && !(named.has k && decide (k.isCondition = false ∧ k ≠ .restarted))) := by
  rw [KindSet.has_and, KindSet.has_not, KindSet.has_and, has_clearable]

/-- The mask that ATMK makes of the set named (R162). -/
theorem has_masked (named : KindSet) (st : Station) (k : AttnKind) : KindSet.has (named &&& maskable st) k
    = (named.has k && decide (receives st k = true ∧ k ≠ .restarted)) := by
  rw [KindSet.has_and, has_maskable]

/-! ### The takings, command by command -/

theorem anyStale_congr {s t : State} (same : ∀ b : Bay, t.lanes[b].staleIndication = s.lanes[b].staleIndication) :
    t.anyStale = s.anyStale := by
  rw [Bool.eq_iff_iff]
  simp only [State.anyStale, List.any_eq_true, mem_lanes, exists_exists_eq_and, same]

theorem setLane_seen {s : State} {b : Bay} {lane : Lane} (same : lane.staleIndication = s.lanes[b].staleIndication) :
    (setLane b lane s).seen = s.seen := by
  have stale : (setLane b lane s).anyStale = s.anyStale := anyStale_congr fun c => by
    rw [setLane_lanes_get]
    split
    · next self => rw [self, same]
    · rfl
  simp only [State.seen, stale]
  rfl

section
variable (args : List Byte) (s : State)

theorem takeDosq_acts (n : Line) : OwnerActs s (takeDosq n args s).state := by
  fun_cases takeDosq n args s
  case case8 q _ _ _ _ _ k _ =>
    unfold doseWith
    dsimp only
    split
    case h_2 | h_3 => exact .opened n q k
    all_goals exact .unseen rfl
  all_goals exact .unseen rfl

theorem takeDsch_acts (n : Line) : OwnerActs s (takeDsch n args s).state := by
  fun_cases takeDsch n args s
  case case6 b _ _ _ _ line _ _ => exact .discharged b line
  all_goals exact .unseen rfl

theorem takeAbdn_acts (n : Line) : OwnerActs s (takeAbdn n s).state := by
  fun_cases takeAbdn n s
  case case1 => exact .unseen rfl
  case case2 line | case3 line => exact .abandoned (by simp only [line, LineRecord.serial])

theorem takeTmpr_acts : OwnerActs s (takeTmpr args s).state := by
  fun_cases takeTmpr args s
  case case3 b _ _ => exact .read b _
  case case5 b _ _ _ _ b' _ => exact .readTwice b b' _ _
  all_goals exact .unseen rfl

theorem takeLaneLock_acts (locked : Bool) : OwnerActs s (takeLaneLock locked args s).state := by
  fun_cases takeLaneLock locked args s
  case case1 => exact .unseen rfl
  case case2 => exact .unseen (setLane_seen rfl)

theorem takeStim_acts : OwnerActs s (takeStim args s).state := by
  fun_cases takeStim args s
  case case1 => exact .unseen rfl
  case case2 minute _ => exact .timeSet minute

theorem takeClnx_acts : OwnerActs s (takeClnx args s).state := by
  fun_cases takeClnx args s
  case case6 head _ _ _ | case7 head _ _ _ _ => exact .claimed _ head
  all_goals exact .unseen rfl

theorem takeCnfm_acts : OwnerActs s (takeCnfm args s).state := by
  fun_cases takeCnfm args s
  case case4 found claimed _ => exact .confirmed _ _ (mem_of_lot? s found).1 (claimedBy_iff.1 claimed).1
  all_goals exact .unseen rfl

theorem takeRtrn_acts : OwnerActs s (takeRtrn args s).state := by
  fun_cases takeRtrn args s
  case case3 found state _ =>
    obtain ⟨mem, rfl⟩ := mem_of_lot? s found
    exact .returned mem state
  all_goals exact .unseen rfl

theorem takeHold_acts : OwnerActs s (takeHold args s).state := by
  fun_cases takeHold args s
  case case4 found _ _ | case6 found _ _ | case8 found _ _ =>
    obtain ⟨mem, rfl⟩ := mem_of_lot? s found
    exact .held mem
  case case9 found state =>
    obtain ⟨mem, rfl⟩ := mem_of_lot? s found
    exact .heldClaimed mem state
  all_goals exact .unseen rfl

theorem takeUnhd_acts : OwnerActs s (takeUnhd args s).state := by
  fun_cases takeUnhd args s
  case case3 found _ _ _ _ | case4 found _ _ _ _ | case5 found _ _ _ _ => exact .unheld (mem_of_lot? s found).1
  all_goals exact .unseen rfl

theorem takeRjct_acts : OwnerActs s (takeRjct args s).state := by
  fun_cases takeRjct args s
  case case3 found state =>
    obtain ⟨mem, rfl⟩ := mem_of_lot? s found
    exact .voided mem state
  case case4 found state | case5 found state | case6 found state | case7 found state =>
    exact .rejected (mem_of_lot? s found).1 (by rw [state]; rfl)
  all_goals exact .unseen rfl

theorem takeClrb_acts : OwnerActs s (takeClrb args s).state := by
  fun_cases takeClrb args s
  case case3 lane rejected => exact .cleared lane rejected
  all_goals exact .unseen rfl

theorem takeExtd_acts : OwnerActs s (takeExtd args s).state := by
  fun_cases takeExtd args s
  case case4 minutes _ _ _ found state => exact .extended minutes (mem_of_lot? s found).1 (.inl state)
  case case5 minutes _ _ _ found state => exact .extended minutes (mem_of_lot? s found).1 (.inr state)
  all_goals exact .unseen rfl

/-- SPAR of any parameter sets a limit, a capacity or a time of its own. -/
theorem takeSpar_acts : OwnerActs s (takeSpar args s).state := by
  fun_cases takeSpar args s
  case case2 index value _ => fun_cases takeCementMax index value s <;> exact .unseen rfl
  case case3 index value _ => fun_cases takeWaterMax index value s <;> exact .unseen rfl
  case case4 index value _ => fun_cases takeAdditiveMax index value s <;> exact .unseen rfl
  case case5 index value _ => fun_cases takeStaleLimit index value s <;> exact .unseen rfl
  case case6 index value _ =>
    fun_cases takeBayCapacity index value s
    case case4 => exact .unseen (setLane_seen rfl)
    all_goals exact .unseen rfl
  case case7 index value _ => fun_cases takeClaimTimeout index value s <;> exact .unseen rfl
  all_goals exact .unseen rfl

theorem takeAtrd_acts (st : Station) : OwnerActs s (takeAtrd st s).state := by
  refine .forgotten (fun k held => ?_) fun k condition => ?_
  · rw [KindSet.has_erase, Bool.and_eq_true] at held
    exact held.1
  · have other : k ≠ .restarted := by
      rintro rfl
      exact absurd condition nofun
    rw [KindSet.has_erase, decide_eq_false other, Bool.not_false, Bool.and_true]

theorem takeAtcl_acts (st : Station) : OwnerActs s (takeAtcl st args s).state := by
  fun_cases takeAtcl st args s
  case case1 => exact .unseen rfl
  case case2 =>
    refine .forgotten (fun k held => ?_) fun k condition => (has_cleared _ _ k).trans ?_
    · rw [has_cleared, Bool.and_eq_true] at held
      exact held.1
    · simp [condition]

theorem takeAtmk_acts (st : Station) : OwnerActs s (takeAtmk st args s).state := by
  fun_cases takeAtmk st args s
  case case1 => exact .unseen rfl
  case case2 =>
    refine .masked fun k held => ?_
    rw [has_masked, Bool.and_eq_true, decide_eq_true_eq] at held
    exact held.2

/-- What the owner's taking of any command does to what is seen. -/
theorem deliver_acts (c : CommandCode) (st : Station) : OwnerActs s (deliver c st args s).state := by
  cases c <;> unfold deliver <;> dsimp only
  case dosq => exact takeDosq_acts args s _
  case dsch => exact takeDsch_acts args s _
  case abdn => exact takeAbdn_acts s _
  case tmpr => exact takeTmpr_acts args s
  case clnx => exact takeClnx_acts args s
  case cnfm => exact takeCnfm_acts args s
  case rtrn => exact takeRtrn_acts args s
  case hold => exact takeHold_acts args s
  case unhd => exact takeUnhd_acts args s
  case rjct => exact takeRjct_acts args s
  case clrb => exact takeClrb_acts args s
  case extd => exact takeExtd_acts args s
  case lock | ulck => exact takeLaneLock_acts args s _
  case rcpw => fun_cases takeRcpw args s <;> exact .unseen rfl
  case rcpe => fun_cases takeRcpe args s <;> exact .unseen rfl
  case rcpd => fun_cases takeRcpd args s <;> exact .unseen rfl
  case rcpr => fun_cases takeRcpr args s <;> exact .unseen rfl
  case stim => exact takeStim_acts args s
  case spar => exact takeSpar_acts args s
  case qlot => exact .unseen (by rw [takeQlot_state])
  case qrel => exact .unseen (by rw [takeQrel_state])
  case atrd => exact takeAtrd_acts s st
  case atcl => exact takeAtcl_acts args s st
  case atmk => exact takeAtmk_acts args s st
  case qlin | rstw | rstc => exact .unseen rfl

end

end Sys2Proof.Machine
end

section
/-! ## The pending sets and the masks stay within the kinds received (R156, R162)

What raises a kind names stations that receive it, a report goes to the receivers of its kind, and the rest takes kinds away. -/

namespace Sys2Proof.Machine

open Sys2Proof

structure Heard.Lawful (a : Heard) : Prop where
  received : ∀ (st : Station) (k : AttnKind), a.pending[st].has k = true → receives st k = true
  masked : ∀ (st : Station) (k : AttnKind), a.masks[st].has k = true → receives st k = true ∧ k ≠ .restarted

theorem heard_lawful_iff {s : State} : s.heard.Lawful ↔ AttentionLaw s :=
  ⟨fun h => ⟨h.received, h.masked⟩, fun h => ⟨h.received, h.masked⟩⟩

/-- No kind is pending and none is masked. -/
theorem heard_lawful_of_empty {s : State} (pending : s.pendingKinds = Vector.replicate 7 0) (masks : s.masks = Vector.replicate 7 0) :
    s.heard.Lawful := by
  have none (st : Station) (k : AttnKind) : ¬(Vector.replicate 7 (0 : KindSet))[st].has k = true := by
    rw [Fin.getElem_fin, Vector.getElem_replicate, KindSet.has_empty]
    exact nofun
  constructor
  · intro st k held
    rw [State.heard, pending] at held
    exact absurd held (none st k)
  · intro st k held
    rw [State.heard, masks] at held
    exact absurd held (none st k)

theorem heard_ite {p : Prop} [Decidable p] {s t : State} (ht : t.heard.Lawful) (hs : s.heard.Lawful) :
    (if p then t else s).heard.Lawful := by
  split
  · exact ht
  · exact hs

/-! ### What changes the sets -/

section
variable {s : State} (h : s.heard.Lawful)
include h

/-- A kind raised for stations that receive it. -/
theorem raiseFor_heard {who : Station → Bool} {k : AttnKind} (within : ∀ st : Station, who st = true → receives st k = true) :
    (raiseFor who k s).heard.Lawful where
  received st j held := by
    rw [State.heard, raiseFor_has] at held
    simp only [Bool.or_eq_true, Bool.and_eq_true, decide_eq_true_eq] at held
    obtain before | ⟨named, rfl⟩ := held
    · exact h.received st j before
    · exact within st named
  masked := h.masked

theorem raise_heard {st : Station} {k : AttnKind} (receiver : receives st k = true) : (raise st k s).heard.Lawful :=
  raiseFor_heard h fun _ same => of_decide_eq_true same ▸ receiver

theorem reportCondition_heard (k : AttnKind) (value : Bool) : (reportCondition k value s).heard.Lawful where
  received st j held := by
    rw [State.heard, reportCondition_has] at held
    by_cases self : j = k ∧ receives st k = true
    · exact self.1 ▸ self.2
    · exact h.received st j (by rwa [if_neg self] at held)
  masked st j held := by
    rw [State.heard, reportCondition_masks] at held
    exact h.masked st j held

theorem setPendingKinds_heard {st : Station} {left : KindSet}
    (fewer : ∀ k : AttnKind, left.has k = true → s.pendingKinds[st].has k = true) : (setPendingKinds st left s).heard.Lawful where
  received other k held := by
    rw [State.heard, setPendingKinds, getElem_set_fin] at held
    split at held
    · next same => exact same ▸ h.received st k (fewer k held)
    · exact h.received other k held
  masked := h.masked

theorem setMask_heard {st : Station} {mask : KindSet}
    (within : ∀ k : AttnKind, mask.has k = true → receives st k = true ∧ k ≠ .restarted) : (setMask st mask s).heard.Lawful where
  received := h.received
  masked other k held := by
    rw [State.heard, setMask, getElem_set_fin] at held
    split at held
    · next same => exact same ▸ within k held
    · exact h.masked other k held

/-! ### The owners' acts -/

theorem voidDose_heard (n : Line) (serial : Nat) : (voidDose n serial s).heard.Lawful :=
  raise_heard (s := setLine n (.void serial) (changeLot serial (Lot.withState .void) s)) h (decide_eq_true n.isLt)

theorem revokeClaim_heard (serial : Nat) : (revokeClaim serial s).heard.Lawful :=
  raise_heard (s := removeClaim serial s) h rfl

theorem handOver_heard (b : Bay) : (handOver b s).heard.Lawful :=
  reportCondition_heard (reportCondition_heard (s := joinFront b s) h _ _) _ _

theorem takeReading_heard (b : Bay) (t : Int) : (takeReading b t s).heard.Lawful := by
  fun_cases takeReading b t s
  case case1 => exact reportCondition_heard (s := setLane b _ s) h _ _
  case case2 => exact raiseFor_heard h fun _ receiver => receiver

theorem unholdLot_heard (l : Lot) : (unholdLot l s).heard.Lawful :=
  heard_ite (reportCondition_heard (s := joinTail l.serial (changeLot l.serial (Lot.withHold none) s)) h _ _) h

theorem rejectLot_heard (l : Lot) : (rejectLot l s).heard.Lawful := by
  have claim {u : State} (hu : u.heard.Lawful) : (if l.state = .claimed then revokeClaim l.serial u else u).heard.Lawful :=
    heard_ite (revokeClaim_heard hu _) hu
  have front {u : State} (hu : u.heard.Lawful) : (if l.atFront then reportRejected u else u).heard.Lawful :=
    heard_ite (reportCondition_heard hu _ _) hu
  have overdue {u : State} (hu : u.heard.Lawful) : (if l.state = .overdue then reportOverdue u else u).heard.Lawful :=
    heard_ite (reportCondition_heard hu _ _) hu
  exact overdue (front (claim (reportCondition_heard (by exact h) _ _)))

theorem extendLot_heard (l : Lot) (minutes : Nat) : (extendLot l minutes s).heard.Lawful :=
  heard_ite (reportCondition_heard (s := changeLot l.serial (Lot.extendedBy minutes) s) h _ _) h

/-- The taking of any command keeps the sets within the kinds received. -/
theorem OwnerActs.heard {t : State} (acts : OwnerActs s t) : t.heard.Lawful := by
  cases acts with
  | unseen same => exact (show t.heard = s.heard from congrArg Seen.heard same) ▸ h
  | opened | discharged | abandoned => exact h
  | read b t => exact takeReading_heard h b t
  | readTwice b b' t t' => exact takeReading_heard (takeReading_heard h b t) b' t'
  | timeSet | claimed | returned | held => exact reportCondition_heard (by exact h) _ _
  | confirmed | cleared => exact handOver_heard (by exact h) _
  | heldClaimed => exact revokeClaim_heard (by exact h) _
  | unheld => exact unholdLot_heard h _
  | voided => exact voidDose_heard h _ _
  | rejected => exact rejectLot_heard h _
  | extended => exact extendLot_heard h _ _
  | forgotten fewer => exact setPendingKinds_heard h fewer
  | masked within => exact setMask_heard h within

/-! ### The time base -/

theorem expireWindow_heard (n : Line) : (expireWindow n s).heard.Lawful := by
  fun_cases expireWindow n s
  case case1 => exact voidDose_heard h _ _
  all_goals exact h

theorem runWindow_heard (n : Line) : (runWindow n s).heard.Lawful := by
  fun_cases runWindow n s
  case case1 => exact expireWindow_heard h n
  case case2 => exact raise_heard (by exact h) (decide_eq_true n.isLt)
  all_goals exact h

theorem expireClaims_heard : (expireClaims s).heard.Lawful := by
  refine reportCondition_heard ?_ _ _
  induction s.claims.filter Claim.ends with
  | nil => exact h
  | cons c rest ih => exact raise_heard (s := returnClaim c.serial (rest.foldr expireClaim s)) ih rfl

theorem runClaims_heard : (runClaims s).heard.Lawful :=
  heard_ite (p := s.claims.any Claim.ends = true) (expireClaims_heard h) h

theorem holdForHeat_heard (l : Lot) : (holdForHeat l s).heard.Lawful := by
  have raised {u : State} (hu : u.heard.Lawful) : (raise supervisorStation .hotHold (leaveQueue l.serial u)).heard.Lawful :=
    raise_heard (s := leaveQueue l.serial u) hu rfl
  exact heard_ite (revokeClaim_heard (raised (by exact h)) _) (raised (by exact h))

theorem judgeHeat_heard (l : Lot) : (judgeHeat l s).heard.Lawful := by
  fun_cases judgeHeat l s
  case case1 => exact holdForHeat_heard h l
  all_goals exact h

theorem judgeJoin_heard (serial : Nat) : (judgeJoin serial s).heard.Lawful := by
  fun_cases judgeJoin serial s <;> exact h

theorem judgeLot_heard (serial : Nat) : (judgeLot serial s).heard.Lawful := by
  fun_cases judgeLot serial s
  case case1 => exact judgeJoin_heard (judgeHeat_heard (by exact h) _) _
  all_goals exact h

theorem takeInterval_heard : (takeInterval s).heard.Lawful := by
  have judged (serials : List Nat) (u : State) (hu : u.heard.Lawful) : (judgeLots serials u).heard.Lawful := by
    induction serials generalizing u with
    | nil => exact hu
    | cons serial rest ih => exact ih _ (judgeLot_heard hu serial)
  exact reportCondition_heard (reportCondition_heard (reportCondition_heard (judged _ _ (by exact h)) _ _) _ _) _ _

theorem takeSecond_heard : (takeSecond s).heard.Lawful := by
  have windows : (runWindows (countSecond s)).heard.Lawful :=
    runWindow_heard (runWindow_heard (runWindow_heard (runWindow_heard (s := countSecond s) h 0) 1) 2) 3
  have run := runClaims_heard windows
  exact heard_ite (takeInterval_heard run) run

end

/-! ### The starts -/

theorem startActions_heard (s : State) : (startActions s).heard.Lawful :=
  heard_ite (heard_lawful_of_empty rfl rfl) (heard_lawful_of_empty rfl rfl)

theorem reportStart_heard {s : State} (h : s.heard.Lawful) (voided : Line → Bool) : (reportStart voided s).heard.Lawful := by
  have restarted : (raiseFor (fun _ => true) .restarted s).heard.Lawful := raiseFor_heard h fun _ _ => rfl
  have doses : (reportVoided voided (raiseFor (fun _ => true) .restarted s)).heard.Lawful := by
    refine raiseFor_heard restarted fun st named => decide_eq_true ?_
    by_contra other
    rw [dif_neg other] at named
    exact absurd named nofun
  unfold reportStart
  iterate 6 refine reportCondition_heard ?_ _ _
  exact doses

theorem enterService_heard (s : State) : (enterService s).heard = s.heard := rfl

theorem completeStart_heard (s : State) : (completeStart s).heard.Lawful := by
  rw [completeStart, enterService_heard]
  exact reportStart_heard (s := sampleHalt (startActions s)) (startActions_heard s) _

/-! ### Every step -/

theorem heard_stepKept : StepKept fun s => s.heard.Lawful where
  link change h := by
    rw [change]
    exact h
  taken c st args s h := (deliver_acts args s c st).heard h
  second _ h := takeSecond_heard h
  window n _ _ h := expireWindow_heard h n
  claims _ h := expireClaims_heard h
  interval _ h := takeInterval_heard h
  haltInput _ _ h := h
  halt _ _ _ h := reportCondition_heard (by exact h) _ _
  begins _ _ _ := heard_lawful_of_empty rfl rfl
  completes _ _ := completeStart_heard _
  fails _ h := h
  resets _ := heard_lawful_of_empty rfl rfl
  powerLoss _ := heard_lawful_of_empty rfl rfl
  latch _ h := h

/-- Settles O54: what raises a kind raises it for receivers, and ATMK masks what its station may mask. -/
theorem stepsKeepAttention : Obligations.StepsKeepAttention := fun _ _ h next =>
  heard_lawful_iff.1 (heard_stepKept.step next (heard_lawful_iff.2 h))

end Sys2Proof.Machine
end

section
/-! ## ATRD, ATCL and ATMK, and the reports (R157, R158, R160 to R162) -/

namespace Sys2Proof.Machine

open Sys2Proof

/-! ### The attention commands -/

section
variable {st : Station} {s : State} (h : TakesAtOnce st s) {args : List Byte} (fits : argsFit args = true)
include h fits

theorem exec_atrd : exec (.atrd st args) s = .next (placeAnswer st 0x70 (takeAtrd st s)) :=
  congrArg Host.Outcome.next (arriveCommand_of_takesAtOnce (c := .atrd) h fits rfl)

theorem exec_atcl : exec (.atcl st args) s = .next (placeAnswer st 0x71 (takeAtcl st args s)) :=
  congrArg Host.Outcome.next (arriveCommand_of_takesAtOnce (c := .atcl) h fits rfl)

theorem exec_atmk : exec (.atmk st args) s = .next (placeAnswer st 0x72 (takeAtmk st args s)) :=
  congrArg Host.Outcome.next (arriveCommand_of_takesAtOnce (c := .atmk) h fits rfl)

end

/-- Settles O39: the commands answer at once, and their sets are those of R160 to R162, kind by kind. -/
theorem attentionCommands : Obligations.AttentionCommands := by
  intro st args s atOnce fits
  refine ⟨⟨s.pendingKinds[st].erase .restarted, fun k => ?_, exec_atrd atOnce fits⟩, fun refused => ⟨?_, ?_⟩,
    fun named given => ⟨⟨s.pendingKinds[st] &&& ~~~ (named &&& clearable), has_cleared _ named, ?_⟩,
      ⟨named &&& maskable st, has_masked named st, ?_⟩⟩⟩
  · rw [KindSet.has_erase, decide_not]
  · rw [exec_atcl atOnce fits, takeAtcl, refused]
    rfl
  · rw [exec_atmk atOnce fits, takeAtmk, refused]
    rfl
  · rw [exec_atcl atOnce fits, takeAtcl, given]
    rfl
  · rw [exec_atmk atOnce fits, takeAtmk, given]
    rfl

/-! ### The reports -/

/-- Settles O40: a raise sets its kind and marks the slots of those to whom it is news, and a report is a raise or takes its kind away. -/
theorem reportsMarkNotices : Obligations.ReportsMarkNotices := by
  refine ⟨fun who k s => ⟨raiseFor_has who k s, fun st => ?_, fun i other => raiseFor_slots_of_ne who k s other, rfl⟩, fun _ _ => rfl,
    fun k s => ⟨fun st j => ?_, rfl⟩⟩
  · rw [raiseFor_slots_noticeSlot]
    simp [newsFor]
  · rw [reportCondition_has]
    by_cases self : j = k <;> cases receives st k <;> simp [self]

end Sys2Proof.Machine
end

section
/-! ## Reports of conditions, one after another (R157)

A taking first changes its blocks and then reports: raises of latched kinds touch no condition, and each report brings one condition
kind into step. So what a taking leaves pending is told by the list of the kinds that it reports. -/

namespace Sys2Proof.Machine

open Sys2Proof

/-- t is u after raises of latched kinds and reports of the conditions listed, which leave the phase, the lots and the conditions. -/
structure Reports (kinds : List AttnKind) (u t : State) : Prop where
  phase : t.phase = u.phase
  lots : t.lots = u.lots
  condition : ∀ k : AttnKind, t.condition k = u.condition k
  pending : ∀ (st : Station) (k : AttnKind), k.isCondition = true → receives st k = true →
    t.pendingKinds[st].has k = if k ∈ kinds then u.condition k else u.pendingKinds[st].has k

theorem raiseFor_condition (who : Station → Bool) (j : AttnKind) (s : State) (k : AttnKind) :
    (raiseFor who j s).condition k = s.condition k := by
  cases k <;> rfl

theorem reportCondition_condition (j : AttnKind) (value : Bool) (s : State) (k : AttnKind) :
    (reportCondition j value s).condition k = s.condition k := by
  cases value <;> cases k <;> rfl

theorem Reports.refl (s : State) : Reports [] s s where
  phase := rfl
  lots := rfl
  condition _ := rfl
  pending _ _ _ _ := rfl

section
variable {kinds : List AttnKind} {u t : State} (r : Reports kinds u t)
include r

/-- A latched kind raised, or a change that the conditions do not read. -/
theorem Reports.followed {v : State} (phase : v.phase = t.phase) (lots : v.lots = t.lots)
    (condition : ∀ k : AttnKind, v.condition k = t.condition k)
    (pending : ∀ (st : Station) (k : AttnKind), k.isCondition = true → v.pendingKinds[st].has k = t.pendingKinds[st].has k) :
    Reports kinds u v where
  phase := phase.trans r.phase
  lots := lots.trans r.lots
  condition k := (condition k).trans (r.condition k)
  pending st k is receiver := (pending st k is).trans (r.pending st k is receiver)

theorem Reports.raiseFor (who : Station → Bool) {k : AttnKind} (latched : k.isCondition = false) :
    Reports kinds u (raiseFor who k t) :=
  r.followed rfl rfl (raiseFor_condition who k t) fun st j is => by
    have other : j ≠ k := by
      rintro rfl
      exact absurd (is.symm.trans latched) nofun
    rw [raiseFor_has, decide_eq_false other, Bool.and_false, Bool.or_false]

theorem Reports.revoke (serial : Nat) : Reports kinds u (revokeClaim serial t) :=
  (r.followed (v := removeClaim serial t) rfl rfl (fun k => by cases k <;> rfl) fun _ _ _ => rfl).raiseFor _ rfl

theorem Reports.revoke_if (p : Prop) [Decidable p] (serial : Nat) : Reports kinds u (if p then revokeClaim serial t else t) := by
  split
  · exact r.revoke serial
  · exact r

/-- The report of a condition as it stands. -/
theorem Reports.report {k : AttnKind} {value : Bool} (stands : value = t.condition k) :
    Reports (k :: kinds) u (reportCondition k value t) where
  phase := by rw [← r.phase, reportCondition_phase]
  lots := by rw [← r.lots, reportCondition_lots]
  condition j := (reportCondition_condition k value t j).trans (r.condition j)
  pending st j is receiver := by
    rw [reportCondition_has, r.pending st j is receiver, stands, r.condition]
    by_cases self : j = k
    · rw [if_pos ⟨self, self ▸ receiver⟩, if_pos (self ▸ List.mem_cons_self), self]
    · simp only [self, false_and, if_false, List.mem_cons, false_or]

/-- A report that depends on what was changed. -/
theorem Reports.report_if (p : Prop) [Decidable p] {k : AttnKind} {value : Bool} (stands : value = t.condition k) :
    Reports (if p then k :: kinds else kinds) u (if p then reportCondition k value t else t) := by
  split
  · exact r.report stands
  · exact r

end

end Sys2Proof.Machine
end

section
/-! ## What a completed start leaves (R69, R90, R155, R163, R164, R166) -/

namespace Sys2Proof.Machine

open Sys2Proof

/-! ### The reports of step 5 -/

theorem reportVoided_has (voided : Line → Bool) (s : State) (st : Station) (k : AttnKind) :
    (reportVoided voided s).pendingKinds[st].has k
      = (s.pendingKinds[st].has k || (receives st .doseVoid && voided (lineOf st)) && decide (k = .doseVoid)) := by
  rw [reportVoided, raiseFor_has]
  by_cases mixer : st.val < 4
  · have line : (⟨st.val, mixer⟩ : Line) = lineOf st := Fin.ext (Nat.mod_eq_of_lt mixer).symm
    simp [receives, mixer, line]
  · simp [receives, mixer]

/-- Step 5 reports every condition (R163). -/
theorem reportStart_reports (voided : Line → Bool) (s : State) :
    Reports [.rejectedAtFront, .overduePresent, .queueReady, .timeUnset, .bayStale, .haltActive] s (reportStart voided s) := by
  have latched : Reports [] s (reportVoided voided (raiseFor (fun _ => true) .restarted s)) :=
    ((Reports.refl s).raiseFor _ rfl).raiseFor _ rfl
  exact (((((latched.report rfl).report rfl).report rfl).report rfl).report rfl).report rfl

/-- What step 5 makes pending (R163). -/
theorem reportStart_has (voided : Line → Bool) (s : State) {st : Station} {k : AttnKind} (receiver : receives st k = true) :
    (reportStart voided s).pendingKinds[st].has k = if k.isCondition = true then s.condition k
        else s.pendingKinds[st].has k || (decide (k = .restarted) || voided (lineOf st) && decide (k = .doseVoid)) := by
  split
  · next is =>
    have listed : k ∈ [AttnKind.rejectedAtFront, .overduePresent, .queueReady, .timeUnset, .bayStale, .haltActive] := by
      revert is
      cases k <;> decide
    rw [(reportStart_reports voided s).pending st k is receiver, if_pos listed]
  · next latched =>
    have unreported (j : AttnKind) (is : j.isCondition = true) (value : Bool) (u : State) :
        (reportCondition j value u).pendingKinds[st].has k = u.pendingKinds[st].has k := by
      rw [reportCondition_has, if_neg]
      rintro ⟨rfl, -⟩
      exact latched is
    rw [reportStart, reportRejected, unreported _ rfl, reportOverdue, unreported _ rfl, reportQueue, unreported _ rfl, reportTime,
      unreported _ rfl, reportStale, unreported _ rfl, reportHalt, unreported _ rfl, reportVoided_has, raiseFor_has]
    by_cases dose : k = .doseVoid
    · subst dose
      simp [receiver]
    · simp [dose]

/-- Every notice slot is pending and every other slot empty. -/
def Announced (s : State) : Prop := ∀ i : SlotNo, s.slots[i] = if 7 ≤ i.val ∧ i.val < 14 then .pending else .empty

theorem noticeSlot_range (st : Station) : 7 ≤ (noticeSlot st).val ∧ (noticeSlot st).val < 14 := by
  simp only [noticeSlot]
  omega

/-- A slot that carries no notice. -/
theorem not_noticeSlot {i : SlotNo} (other : ∀ st : Station, i ≠ noticeSlot st) : ¬(7 ≤ i.val ∧ i.val < 14) := by
  rintro ⟨above, below⟩
  refine other ⟨i.val - 7, by omega⟩ (Fin.ext ?_)
  simp only [noticeSlot]
  omega

theorem Announced.raiseFor {s : State} (h : Announced s) (who : Station → Bool) (k : AttnKind) : Announced (raiseFor who k s) := by
  intro i
  by_cases notice : ∃ st : Station, i = noticeSlot st
  · obtain ⟨st, rfl⟩ := notice
    have pending : s.slots[noticeSlot st] = .pending := (h _).trans (if_pos (noticeSlot_range st))
    rw [raiseFor_slots_noticeSlot, pending, if_pos (noticeSlot_range st)]
    split <;> rfl
  · rw [raiseFor_slots_of_ne who k s (not_exists.1 notice)]
    exact h i

theorem Announced.reportCondition {s : State} (h : Announced s) (k : AttnKind) (value : Bool) :
    Announced (reportCondition k value s) := by
  cases value
  · exact h
  · exact h.raiseFor _ k

/-- RESTARTED is news to every station, so the first report of step 5 marks every notice slot, and the others find them marked. -/
theorem announced_reportStart {s : State} (voided : Line → Bool) (slots : ∀ i : SlotNo, s.slots[i] = .empty)
    (news : ∀ st : Station, newsFor s st .restarted = true) : Announced (reportStart voided s) := by
  have restarted : Announced (raiseFor (fun _ => true) .restarted s) := by
    intro i
    by_cases notice : ∃ st : Station, i = noticeSlot st
    · obtain ⟨st, rfl⟩ := notice
      rw [raiseFor_slots_noticeSlot, news st, slots, if_pos (noticeSlot_range st)]
      rfl
    · rw [raiseFor_slots_of_ne _ _ s (not_exists.1 notice), slots, if_neg (not_noticeSlot (not_exists.1 notice))]
  unfold reportStart
  iterate 6 refine Announced.reportCondition ?_ _ _
  exact restarted.raiseFor _ _

/-! ### The actions -/

/-- What the warm and the cold actions both leave: unretained state at its start (R87, R106, R163), no line DOSED (R69), and the
fields of steps 1 and 4 as they were. -/
structure ActionsDone (s t : State) : Prop where
  pendingKinds : t.pendingKinds = Vector.replicate 7 0
  masks : t.masks = Vector.replicate 7 0
  timeValid : t.timeValid = false
  reading : ∀ b : Bay, t.lanes[b].reading = none
  stale : ∀ b : Bay, t.lanes[b].stale = false
  undosed : ∀ n : Line, t.lines[n].isDosed = false
  slots : t.slots = s.slots
  phRaw : t.phRaw = s.phRaw
  decidedCause : t.decidedCause = s.decidedCause

theorem coldActions_done (s : State) : ActionsDone s (coldActions s) := by
  constructor <;> simp [coldActions, Lane.coldStart, LineRecord.isDosed]

theorem LineRecord.voided_isDosed (r : LineRecord) : r.voided.isDosed = false := by cases r <;> rfl

theorem warmActions_done (s : State) : ActionsDone s (warmActions s) := by
  constructor <;> simp [warmActions, emptyUnretained, countOutages, returnClaims, voidDoses, Lane.withoutReading,
    LineRecord.voided_isDosed]

theorem startActions_done (s : State) : ActionsDone s (startActions s) := by
  fun_cases startActions s
  · exact coldActions_done s
  · exact warmActions_done s

/-! ### The completed start -/

section
variable (s : State)

theorem enterService_condition (k : AttnKind) : (enterService s).condition k = s.condition k := by cases k <;> rfl

theorem enterService_pendingKinds : (enterService s).pendingKinds = s.pendingKinds := rfl

theorem enterService_slots : (enterService s).slots = s.slots := rfl

theorem sampleHalt_pendingKinds_get (st : Station) (k : AttnKind) : (sampleHalt (startActions s)).pendingKinds[st].has k = false := by
  have empty : (sampleHalt (startActions s)).pendingKinds = Vector.replicate 7 0 := (startActions_done s).pendingKinds
  rw [empty, Fin.getElem_fin, Vector.getElem_replicate, KindSet.has_empty]

/-- R85, R87: with no reading in any lane, BAY_STALE is true. -/
theorem sampleHalt_anyStale : (sampleHalt (startActions s)).anyStale = true :=
  List.any_eq_true.2 ⟨(startActions s).lanes[(0 : Bay)], mem_lanes.2 ⟨0, rfl⟩,
    by rw [Lane.staleIndication, (startActions_done s).reading]; rfl⟩

theorem completeStart_condition (k : AttnKind) : (completeStart s).condition k = (sampleHalt (startActions s)).condition k := by
  rw [completeStart, enterService_condition, (reportStart_reports _ _).condition]

/-- What a completed start leaves pending (R163). -/
theorem completeStart_has {st : Station} {k : AttnKind} (receiver : receives st k = true) :
    (completeStart s).pendingKinds[st].has k = if k.isCondition = true then (completeStart s).condition k
      else decide (k = .restarted) || s.voidedByStart (lineOf st) && decide (k = .doseVoid) := by
  rw [completeStart_condition, completeStart, enterService_pendingKinds, reportStart_has _ _ receiver, sampleHalt_pendingKinds_get,
    Bool.false_or]

/-- Slots that are empty before it are empty after it but for the notices. -/
theorem completeStart_announced (empty : ∀ i : SlotNo, s.slots[i] = .empty) : Announced (completeStart s) := by
  have done := startActions_done s
  have slots : (sampleHalt (startActions s)).slots = s.slots := done.slots
  have masks : (sampleHalt (startActions s)).masks = Vector.replicate 7 0 := done.masks
  have reported : Announced (reportStart s.voidedByStart (sampleHalt (startActions s))) := by
    refine announced_reportStart _ (fun i => by rw [slots]; exact empty i) fun st => ?_
    rw [newsFor, sampleHalt_pendingKinds_get, masks, Fin.getElem_fin, Vector.getElem_replicate, KindSet.has_empty]
    rfl
  intro i
  rw [completeStart, enterService_slots]
  exact reported i

/-- The link, the time base, the phase and the halt input after steps 4 and 5 (R69, R90, R155, R164, R166). -/
structure InService (s t : State) : Prop where
  phase : t.phase = .inService
  ready : t.ready = true
  selfTestPassed : t.selfTestPassed = some true
  startCause : t.startCause = s.decidedCause
  haltRegistered : t.haltRegistered = s.phRaw
  qualifying : t.qualifying = false
  timeValid : t.timeValid = false
  divider : t.divider = 0
  secondInMinute : t.secondInMinute = 0
  link : t.link = .onBus
  transmitErrors : t.transmitErrors = 0
  receiveErrors : t.receiveErrors = 0
  masks : t.masks = Vector.replicate 7 0

theorem completeStart_inService : InService s (completeStart s) := by
  have done := startActions_done s
  constructor <;> simp [completeStart, enterService, zeroTimeBase, reportStart, reportVoided, sampleHalt, done.phRaw, done.decidedCause,
    done.timeValid, done.masks]

end

/-- Settles O48: the actions leave the unretained state at its start, step 4 samples PH, step 5 reports, and the part enters service. -/
theorem startsComplete : Obligations.StartsComplete := by
  intro s starting empty
  have done := startActions_done s
  have kept := completeStart_retained s
  have set := completeStart_inService s
  have received := (heard_lawful_iff.1 (completeStart_heard s)).received
  refine ⟨completeStart s, exec_selfTest_passed starting, set.phase, set.ready, set.selfTestPassed, set.startCause, set.haltRegistered,
    set.qualifying, set.timeValid, set.divider, set.secondInMinute, set.link, set.transmitErrors, set.receiveErrors, fun n => ?_,
    fun b => ?_, fun st => ?_, fun st k => ?_, completeStart_announced s empty⟩
  · have feed := completeStart_feed s
    have permits : (completeStart s).permits = (sampleHalt (startActions s)).permits := congrArg Feed.permits feed
    rw [permits, permitLaw_sampleHalt]
    show permitLevel (startActions s).lines[n] _ _ = false
    rw [permitLevel, done.undosed]
    rfl
  · rw [kept.lanes]
    exact ⟨done.reading b, done.stale b⟩
  · rw [set.masks, Fin.getElem_fin, Vector.getElem_replicate]
  · cases receiver : receives st k with
    | false => exact Bool.eq_false_iff.2 fun held => absurd ((received st k held).symm.trans receiver) nofun
    | true =>
      rw [completeStart_has s receiver, Bool.true_and]
      cases k with
      | haltActive => exact set.haltRegistered
      | bayStale => exact (completeStart_condition s .bayStale).trans (sampleHalt_anyStale s)
      | timeUnset => exact congrArg not set.timeValid
      | doseVoid =>
        have voided : s.voidedByStart (lineOf st) = (!s.decidedCause.isCold && s.lines[lineOf st].isDosed) := rfl
        rw [voided]
        cases s.lines[lineOf st] <;> simp [AttnKind.isCondition, LineRecord.isDosed]
      | restarted | queueReady | overduePresent | rejectedAtFront => rfl
      | pourLate | claimExpired | claimRevoked | probeFault | hotHold => simp [AttnKind.isCondition]

end Sys2Proof.Machine
end

section
/-! ## The conditions that lots raise (R137, R138)

OVERDUE_PRESENT and REJECTED_AT_FRONT are conditions of the hall. Under its laws each is the alert of some live lot, told by that lot's
state and place alone, so what a taking makes of the lots one by one says what it makes of these conditions. -/

namespace Sys2Proof.Machine

open Sys2Proof

/-- The condition that a lot by itself makes true. -/
def Lot.alert (l : Lot) : Option AttnKind := match l.state with
  | .overdue => some .overduePresent
  | .rejected => if l.atFront then some .rejectedAtFront else none
  | .dosed | .void | .curing | .cured | .claimed => none

/-- The states in which a lot may alert. -/
def LotState.alerts : LotState → Bool
  | .overdue | .rejected => true
  | .dosed | .void | .curing | .cured | .claimed => false

/-- Some live lot makes the condition true. -/
def State.alerted (s : State) (k : AttnKind) : Bool := s.lots.any fun l => l.alert = some k

section
variable {l m : Lot} {k : AttnKind}

theorem Lot.alert_eq_some_iff : l.alert = some k ↔ k = .overduePresent ∧ l.state = .overdue
    ∨ k = .rejectedAtFront ∧ l.state = .rejected ∧ l.atFront = true := by
  rw [Lot.alert]
  cases l.state with
  | overdue => simp [@eq_comm _ _ k]
  | rejected => cases l.atFront <;> simp [@eq_comm _ _ k]
  | dosed | void | curing | cured | claimed => simp

theorem Lot.alert_congr (state : m.state = l.state) (place : m.place = l.place) : m.alert = l.alert := by
  rw [Lot.alert, Lot.alert, state, Lot.atFront_congr place]

theorem Lot.alert_withHold (r : Option HoldReason) (l : Lot) : (l.withHold r).alert = l.alert := Lot.alert_congr rfl rfl

theorem Lot.alert_of_quiet (quiet : l.state.alerts = false) : l.alert = none := by
  refine Option.eq_none_iff_forall_ne_some.2 fun k alert => ?_
  rw [Lot.alert_eq_some_iff] at alert
  rcases alert with ⟨-, state⟩ | ⟨-, state, -⟩ <;> exact absurd (state ▸ quiet) nofun

/-- But for REJECTED_AT_FRONT an alert does not depend on the lot's place. -/
theorem Lot.alert_iff_of_state (other : k ≠ .rejectedAtFront) (state : m.state = l.state) : m.alert = some k ↔ l.alert = some k := by
  simp only [Lot.alert_eq_some_iff, other, state, false_and, or_false]

end

/-- The decisions of an interval leave a credited lot credited (R98 to R100). -/
theorem Lot.decided_state_credited {l : Lot} (credited : l.state.credited = true) : l.decided.state.credited = true := by
  have judged : (l.withState l.decidedState).state.credited = true := Lot.decidedState_credited credited
  rw [Lot.decided_of_credited credited]
  obtain ⟨-, e⟩ | ⟨-, -, e⟩ | ⟨-, -, e⟩ := (l.withState l.decidedState).cooled_cases <;> rw [e]
  · exact judged
  · exact judged
  · have holdable := Lot.heldForHeat_state_holdable judged
    revert holdable
    cases (l.withState l.decidedState).heldForHeat.state <;> decide

/-- The decisions of an interval reject no lot and move none. -/
theorem Lot.alert_decided (l : Lot) : l.decided.alert = some .rejectedAtFront ↔ l.alert = some .rejectedAtFront := by
  cases credited : l.state.credited with
  | true =>
    have unrejected {m : Lot} (standing : m.state.credited = true) : m.alert ≠ some .rejectedAtFront := by
      rw [ne_eq, Lot.alert_eq_some_iff]
      rintro (⟨other, -⟩ | ⟨-, rejected, -⟩)
      · exact absurd other nofun
      · exact absurd (rejected ▸ standing) nofun
    exact iff_of_false (unrejected (Lot.decided_state_credited credited)) (unrejected credited)
  | false => rw [Lot.decided_of_idle credited]

theorem anyOverdue_eq (s : State) : s.anyOverdue = s.alerted .overduePresent := by
  simp [State.anyOverdue, State.alerted, Lot.alert_eq_some_iff]

/-- R71, R137: a REJECTED lot at the front of a lane is a live one whose place is the front. -/
theorem HallParts.anyRejectedAtFront_eq {s : State} (h : HallParts s) : s.anyRejectedAtFront = s.alerted .rejectedAtFront := by
  rw [Bool.eq_iff_iff]
  simp only [State.anyRejectedAtFront, State.alerted, List.any_eq_true, mem_lanes, exists_exists_eq_and, decide_eq_true_eq,
    Lot.alert_eq_some_iff, reduceCtorEq, false_and, false_or, true_and]
  constructor
  · rintro ⟨b, rejected⟩
    unfold State.frontRejected at rejected
    split at rejected
    · next serial head =>
      obtain ⟨l, found, front⟩ := h.atFront_of_mem_fronts (mem_fronts.2 ⟨b, head⟩)
      rw [found] at rejected
      exact ⟨l, (mem_of_lot? s found).1, of_decide_eq_true rejected, front⟩
    · exact absurd rejected nofun
  · rintro ⟨l, mem, rejected, front⟩
    obtain ⟨behind, f⟩ := h.fronted mem front
    exact ⟨l.bay, (frontRejected_eq f.lane (h.serials.lot?_serial mem)).trans (decide_eq_true rejected)⟩

/-! ### What leaves the alerts -/

section
variable {s t : State} {k : AttnKind}

theorem alerted_of_map {f : Lot → Lot} (lots : t.lots = s.lots.map f)
    (same : ∀ l ∈ s.lots, ((f l).alert = some k ↔ l.alert = some k)) : t.alerted k = s.alerted k := by
  rw [State.alerted, State.alerted, lots, Bool.eq_iff_iff]
  simp only [List.any_map, List.any_eq_true, Function.comp_apply, decide_eq_true_eq]
  exact exists_congr fun l => and_congr_right (same l)

/-- One lot changed in place, whose alert stays. -/
theorem SerialLaw.alerted_of_change (h : SerialLaw s) {l : Lot} (mem : l ∈ s.lots) {f : Lot → Lot}
    (same : (f l).alert = some k ↔ l.alert = some k)
    (lots : t.lots = s.lots.map fun x => if x.serial = l.serial then f x else x := by rfl) : t.alerted k = s.alerted k := by
  refine alerted_of_map lots fun x hx => ?_
  split
  · next self => exact h.eq_of_serial_eq hx mem self ▸ same
  · rfl

/-- A new lot that does not alert. -/
theorem alerted_createLot (s : State) {new : Lot} (quiet : new.state.alerts = false) (k : AttnKind) :
    (createLot new s).alerted k = s.alerted k := by
  have lots : (createLot new s).lots = s.lots ++ [new] := rfl
  rw [State.alerted, State.alerted, lots, List.any_append]
  simp [Lot.alert_of_quiet quiet]

/-- Lots removed whose alert is another. -/
theorem alerted_of_filter {p : Lot → Bool} (lots : t.lots = s.lots.filter p)
    (removed : ∀ l ∈ s.lots, p l = false → l.alert ≠ some k) : t.alerted k = s.alerted k := by
  rw [State.alerted, State.alerted, lots, Bool.eq_iff_iff]
  simp only [List.any_eq_true, List.mem_filter, decide_eq_true_eq]
  refine exists_congr fun l => ⟨fun ⟨⟨mem, _⟩, alert⟩ => ⟨mem, alert⟩, fun ⟨mem, alert⟩ => ⟨⟨mem, ?_⟩, alert⟩⟩
  by_contra gone
  exact removed l mem (Bool.eq_false_iff.2 gone) alert

/-- A front removal takes away the front lot's alert alone, but for the lots that it moves to the front. -/
theorem Fronted.alerted {l : Lot} {b : Bay} {behind : List Nat} (f : Fronted s l b behind) (h : SerialLaw s)
    (other : k ≠ .rejectedAtFront) (removed : l.alert ≠ some k) : (removeFront b s).alerted k = s.alerted k := by
  have kept : State.alerted { s with lots := s.lots.filter fun l => some l.serial ≠ s.lanes[b].lots.head? } k = s.alerted k := by
    refine alerted_of_filter rfl fun x mem gone => ?_
    have front : x.serial = l.serial := by
      simpa only [f.lane, List.head?_cons, ne_eq, Option.some.injEq, decide_not, Bool.not_eq_false', decide_eq_true_eq] using gone
    exact h.eq_of_serial_eq mem f.mem front ▸ removed
  exact (alerted_of_map (s := { s with lots := _ }) (removeFront_lots_eq b s)
    fun x _ => Lot.alert_iff_of_state other (x.afterRemoval_state s b)).trans kept

end

end Sys2Proof.Machine
end

section
/-! ## The condition kinds are pending exactly while true (R157)

A taking or event is a change u of the state s and then reports, which lead to t. The kinds that it reports are in step with u, and of
every other kind the change leaves the condition. -/

namespace Sys2Proof.Machine

open Sys2Proof

/-- Of the condition kinds that are not listed, u has the condition and the pending sets of s. (A field that the change does not touch is
`rfl`.) -/
structure OthersStand (kinds : List AttnKind) (s u : State) : Prop where
  phase : u.phase = s.phase := by rfl
  pending : ∀ (st : Station) (k : AttnKind), k.isCondition = true → u.pendingKinds[st].has k = s.pendingKinds[st].has k := by
    exact fun _ _ _ => rfl
  halt : .haltActive ∈ kinds ∨ u.haltRegistered = s.haltRegistered := by exact .inr rfl
  time : .timeUnset ∈ kinds ∨ u.timeValid = s.timeValid := by exact .inr rfl
  stale : .bayStale ∈ kinds ∨ u.anyStale = s.anyStale := by exact .inr rfl
  queue : .queueReady ∈ kinds ∨ u.queue = s.queue := by exact .inr rfl
  alerts : ∀ k : AttnKind, k ∉ kinds → u.alerted k = s.alerted k := by exact fun _ _ => rfl

/-- The law after a change and its reports. -/
theorem Reports.conditionLaw {kinds : List AttnKind} {s u t : State} (r : Reports kinds u t) (others : OthersStand kinds s u)
    (hs : HallParts s) (ht : HallParts t) (law : ConditionLaw s) : ConditionLaw t := by
  intro serving st k is receiver
  rw [r.pending st k is receiver, r.condition]
  split
  · rfl
  · next unreported =>
    have serving_before : s.phase = .inService := others.phase ▸ r.phase ▸ serving
    rw [others.pending st k is, law serving_before st k is receiver]
    cases k with
    | haltActive => exact (others.halt.resolve_left unreported).symm
    | timeUnset => exact congrArg not (others.time.resolve_left unreported).symm
    | bayStale => exact (others.stale.resolve_left unreported).symm
    | queueReady => exact congrArg (fun queue : List Nat => !queue.isEmpty) (others.queue.resolve_left unreported).symm
    | overduePresent => exact (anyOverdue_eq s).trans ((others.alerts _ unreported).symm.trans (anyOverdue_eq u).symm)
    | rejectedAtFront =>
      have front : u.condition .rejectedAtFront = u.alerted .rejectedAtFront := by
        rw [← r.condition, State.alerted, ← r.lots]
        exact ht.anyRejectedAtFront_eq
      rw [front, others.alerts _ unreported]
      exact hs.anyRejectedAtFront_eq
    | restarted | pourLate | doseVoid | claimExpired | claimRevoked | probeFault | hotHold => exact absurd is nofun

/-- What the expiry of claims leaves of the conditions. -/
theorem ClaimsChange.conditions {s t : State} (change : ClaimsChange s t) :
    t.phase = s.phase ∧ t.haltRegistered = s.haltRegistered ∧ t.timeValid = s.timeValid ∧ t.anyStale = s.anyStale := by
  rw [change]
  exact ⟨rfl, rfl, rfl, rfl⟩

/-! ### The owners' acts -/

section
variable {s : State} (hs : HallParts s)
include hs

/-- A lot changed in place that does not alert before and after. -/
theorem HallParts.alerted_of_quiet {t : State} {l : Lot} (mem : l ∈ s.lots) {f : Lot → Lot} (before : l.state.alerts = false)
    (k : AttnKind) (after : (f l).state.alerts = false := by rfl)
    (lots : t.lots = s.lots.map fun x => if x.serial = l.serial then f x else x := by rfl) : t.alerted k = s.alerted k :=
  hs.serials.alerted_of_change mem (by rw [Lot.alert_of_quiet before, Lot.alert_of_quiet after]) lots

section
variable (law : ConditionLaw s)
include law

theorem takeReading_conditionLaw (b : Bay) (t : Int) : ConditionLaw (takeReading b t s) := by
  have ht := (same_takeReading s b t).hallParts hs
  revert ht
  fun_cases takeReading b t s <;> intro ht
  case case1 =>
    exact ((Reports.refl (setLane b _ s)).report rfl).conditionLaw { stale := .inl List.mem_cons_self } hs ht law
  case case2 => exact ((Reports.refl s).raiseFor _ rfl).conditionLaw {} hs ht law

theorem holdLot_conditionLaw {l : Lot} (mem : l ∈ s.lots) (ht : HallParts (holdLot l.serial s)) : ConditionLaw (holdLot l.serial s) := by
  refine ((Reports.refl (leaveQueue l.serial (changeLot l.serial (Lot.withHold _) s))).report rfl).conditionLaw ?_ hs ht law
  exact
    { queue := .inl List.mem_cons_self
      alerts := fun k _ => hs.serials.alerted_of_change mem (f := Lot.withHold (some .supervisor)) (by rw [Lot.alert_withHold]) }

theorem holdClaimed_conditionLaw {l : Lot} (mem : l ∈ s.lots) (state : l.state = .claimed) (ht : HallParts (holdClaimed l.serial s)) :
    ConditionLaw (holdClaimed l.serial s) := by
  refine ((Reports.refl (changeLot l.serial _ s)).revoke l.serial).conditionLaw ?_ hs ht law
  exact { alerts := fun k _ => hs.alerted_of_quiet mem (f := fun x => (x.withState .cured).withHold (some .supervisor))
            (by rw [state]; rfl) k }

theorem unholdLot_conditionLaw {l : Lot} (mem : l ∈ s.lots) (ht : HallParts (unholdLot l s)) : ConditionLaw (unholdLot l s) := by
  have alerts (k : AttnKind) : (changeLot l.serial (Lot.withHold none) s).alerted k = s.alerted k :=
    hs.serials.alerted_of_change mem (f := Lot.withHold none) (by rw [Lot.alert_withHold])
  have r := (Reports.refl (joinTail l.serial (changeLot l.serial (Lot.withHold none) s))).report (k := .queueReady) rfl
  unfold unholdLot at ht ⊢
  dsimp only at ht ⊢
  split_ifs at ht ⊢
  · exact r.conditionLaw { queue := .inl List.mem_cons_self, alerts := fun k _ => alerts k } hs ht law
  · exact (Reports.refl _).conditionLaw { alerts := fun k _ => alerts k } hs ht law

theorem voidDose_conditionLaw {l : Lot} (mem : l ∈ s.lots) (state : l.state = .dosed) : ConditionLaw (voidDose l.line l.serial s) := by
  refine ((Reports.refl (setLine l.line (.void l.serial) (changeLot l.serial (Lot.withState .void) s))).raiseFor _ rfl).conditionLaw ?_
    hs (voidDose_ages mem state hs).1 law
  exact { alerts := fun k _ => hs.alerted_of_quiet mem (f := Lot.withState .void) (by rw [state]; rfl) k }

/-- A rejection reports OVERDUE_PRESENT for a lot that was OVERDUE, and REJECTED_AT_FRONT for one at the front: the alerts of the lot
before and after. -/
theorem rejectLot_conditionLaw {l : Lot} (mem : l ∈ s.lots) (state : l.state.credited = true) (ht : HallParts (rejectLot l s)) :
    ConditionLaw (rejectLot l s) := by
  have queue := (Reports.refl (leaveQueue l.serial (changeLot l.serial (fun x => (x.withState .rejected).withHold none) s))).report
    (k := .queueReady) rfl
  have reports := ((queue.revoke_if (l.state = .claimed) l.serial).report_if (l.atFront = true) (k := .rejectedAtFront) rfl).report_if
    (l.state = .overdue) (k := .overduePresent) rfl
  refine reports.conditionLaw { queue := .inl ?_, alerts := fun k unreported => ?_ } hs ht law
  · split_ifs <;> simp
  · have before : l.alert ≠ some k := by
      rw [ne_eq, Lot.alert_eq_some_iff]
      rintro (⟨rfl, overdue⟩ | ⟨rfl, rejected, -⟩)
      · simp [overdue] at unreported
      · simp [rejected, LotState.credited] at state
    have after : ((l.withState .rejected).withHold none).alert ≠ some k := by
      rw [ne_eq, Lot.alert_eq_some_iff]
      rintro (⟨rfl, overdue⟩ | ⟨rfl, -, front⟩)
      · exact absurd overdue nofun
      · have front : l.atFront = true := front
        split_ifs at unreported <;> simp at unreported
    exact hs.serials.alerted_of_change mem (f := fun x => (x.withState .rejected).withHold none) (iff_of_false after before)

theorem extendLot_conditionLaw {l : Lot} (mem : l ∈ s.lots) (state : l.state = .curing ∨ l.state = .overdue) (minutes : Nat)
    (ht : HallParts (extendLot l minutes s)) : ConditionLaw (extendLot l minutes s) := by
  have reports := (Reports.refl (changeLot l.serial (Lot.extendedBy minutes) s)).report_if (l.state = .overdue) (k := .overduePresent) rfl
  refine reports.conditionLaw { alerts := fun k unreported => ?_ } hs ht law
  have before : l.alert ≠ some k := by
    rw [ne_eq, Lot.alert_eq_some_iff]
    rintro (⟨rfl, overdue⟩ | ⟨rfl, rejected, -⟩)
    · simp [overdue] at unreported
    · simp [rejected] at state
  have after : (l.extendedBy minutes).alert = none := Lot.alert_of_quiet rfl
  exact hs.serials.alerted_of_change mem (f := Lot.extendedBy minutes) (iff_of_false (by simp [after]) before)

theorem claimHead_conditionLaw {serial : Nat} {behind : List Nat} (truck : Nat) (head : s.queue = serial :: behind)
    (ht : HallParts (claimHead serial truck s)) : ConditionLaw (claimHead serial truck s) := by
  obtain ⟨l, mem, rfl, ready, -⟩ := (hs.queue.exact serial).1 (head ▸ List.mem_cons_self)
  have state : l.state = .cured := (Lot.ready_iff.1 ready).1
  refine ((Reports.refl _).report rfl).conditionLaw ?_ hs ht law
  exact
    { queue := .inl List.mem_cons_self
      alerts := fun k _ => hs.alerted_of_quiet mem (f := Lot.withState .claimed) (by rw [state]; rfl) k }

theorem reportReturnedClaim_conditionLaw {l : Lot} (mem : l ∈ s.lots) (state : l.state = .claimed)
    (ht : HallParts (reportQueue (returnClaim l.serial s))) : ConditionLaw (reportQueue (returnClaim l.serial s)) := by
  refine ((Reports.refl (returnClaim l.serial s)).report rfl).conditionLaw ?_ hs ht law
  exact
    { queue := .inl List.mem_cons_self
      alerts := fun k _ => hs.alerted_of_quiet mem (f := Lot.withState .cured) (by rw [state]; rfl) k }

/-- A front removal and its hand-over, of a lot that is not OVERDUE (R73, R74). -/
theorem handOver_conditionLaw (log : List ReleaseRecord) (claims : List Claim) {l : Lot} {b : Bay} {behind : List Nat}
    (f : Fronted s l b behind) (state : l.state ≠ .overdue)
    (ht : HallParts (handOver b (removeFront b { s with releaseLog := log, claims := claims }))) :
    ConditionLaw (handOver b (removeFront b { s with releaseLog := log, claims := claims })) := by
  refine (((Reports.refl (joinFront b (removeFront b { s with releaseLog := log, claims := claims }))).report
    (k := .queueReady) rfl).report (k := .rejectedAtFront) rfl).conditionLaw ?_ hs ht law
  have stale (c : Bay) : (removeFront b s).lanes[c].staleIndication = s.lanes[c].staleIndication := by
    rw [removeFront_lanes_get]
    split
    · next self => rw [self]; rfl
    · rfl
  refine { stale := .inr (anyStale_congr stale), queue := .inl (by simp), alerts := fun k unreported => ?_ }
  have other : k ≠ .rejectedAtFront := by
    rintro rfl
    simp at unreported
  have removed : l.alert ≠ some k := by
    rw [ne_eq, Lot.alert_eq_some_iff]
    rintro (⟨-, overdue⟩ | ⟨same, -⟩)
    · exact state overdue
    · exact other same
  exact f.alerted hs.serials other removed

theorem discharge_conditionLaw {n : Line} {b : Bay} {serial remaining warning : Nat} (line : s.lines[n] = .dosed serial remaining warning)
    (ht : HallParts (setLine n .idle (placeLot b serial s))) : ConditionLaw (setLine n .idle (placeLot b serial s)) := by
  obtain ⟨-, l, mem, rfl, state, -⟩ := hs.lines.exists_of_dosed line
  refine (Reports.refl _).conditionLaw ?_ hs ht law
  exact
    { stale := .inr (anyStale_congr fun c => by
        rw [setLine_lanes, placeLot_lanes_get]
        split
        · next self => rw [self]; rfl
        · rfl)
      alerts := fun k _ => hs.alerted_of_quiet mem (f := fun x => { x with state := .curing, place := some _ })
        (by rw [state]; rfl) k }

theorem abandon_conditionLaw {n : Line} {serial : Nat} (line : s.lines[n].serial = some serial)
    (ht : HallParts (setLine n .idle (freeLot serial s))) : ConditionLaw (setLine n .idle (freeLot serial s)) := by
  obtain ⟨l, mem, rfl, quiet⟩ : ∃ l ∈ s.lots, l.serial = serial ∧ l.state.alerts = false := by
    cases record : s.lines[n] with
    | idle => exact absurd (record ▸ line) nofun
    | dosed other _ _ =>
      obtain ⟨-, l, mem, same, state, -⟩ := hs.lines.exists_of_dosed record
      have named : other = serial := by simpa [record, LineRecord.serial] using line
      exact ⟨l, mem, same.trans named, by rw [state]; rfl⟩
    | void other =>
      obtain ⟨l, mem, same, state, -⟩ := hs.lines.exists_of_void record
      have named : other = serial := by simpa [record, LineRecord.serial] using line
      exact ⟨l, mem, same.trans named, by rw [state]; rfl⟩
  refine (Reports.refl _).conditionLaw { alerts := fun k _ => alerted_of_filter rfl fun x hx gone => ?_ } hs ht law
  have self : x = l := hs.serials.eq_of_serial_eq hx mem (by simpa using gone)
  rw [self, Lot.alert_of_quiet quiet]
  exact nofun

theorem setPendingKinds_conditionLaw {st : Station} {left : KindSet}
    (latched : ∀ k : AttnKind, k.isCondition = true → left.has k = s.pendingKinds[st].has k)
    (ht : HallParts (setPendingKinds st left s)) : ConditionLaw (setPendingKinds st left s) := by
  refine (Reports.refl _).conditionLaw { pending := fun other k is => ?_ } hs ht law
  rw [setPendingKinds, getElem_set_fin]
  split
  · next self => exact self ▸ latched k is
  · rfl

/-- The taking of any command keeps the conditions in step. -/
theorem OwnerActs.conditionLaw {t : State} (acts : OwnerActs s t) (ht : HallParts t) : ConditionLaw t := by
  cases acts with
  | unseen same =>
    have heard : t.pendingKinds = s.pendingKinds := congrArg (fun seen : Seen => seen.heard.pending) same
    have lots : t.lots = s.lots := congrArg Seen.lots same
    refine (Reports.refl t).conditionLaw ?_ hs ht law
    exact
      { phase := congrArg Seen.phase same, pending := fun st k _ => by rw [heard], halt := .inr (congrArg Seen.haltRegistered same)
        time := .inr (congrArg Seen.timeValid same), stale := .inr (congrArg Seen.stale same)
        queue := .inr (congrArg Seen.queue same), alerts := fun k _ => by rw [State.alerted, lots, State.alerted] }
  | opened n q k =>
    exact (Reports.refl _).conditionLaw { alerts := fun k _ => alerted_createLot s rfl k } hs ht law
  | discharged b line => exact discharge_conditionLaw hs law line ht
  | abandoned line => exact abandon_conditionLaw hs law line ht
  | read b t => exact takeReading_conditionLaw hs law b t
  | readTwice b b' t t' =>
    exact takeReading_conditionLaw ((same_takeReading s b t).hallParts hs) (takeReading_conditionLaw hs law b t) b' t'
  | timeSet minute =>
    exact ((Reports.refl (zeroTimeBase (setPlantMinute minute s))).report rfl).conditionLaw { time := .inl List.mem_cons_self } hs ht law
  | claimed truck head => exact claimHead_conditionLaw hs law truck head ht
  | confirmed truck netMass mem state =>
    obtain ⟨behind, f⟩ := hs.fronted mem (hs.claims.front _ mem state)
    exact handOver_conditionLaw hs law _ _ f (by simp [state]) ht
  | returned mem state => exact reportReturnedClaim_conditionLaw hs law mem state ht
  | held mem => exact holdLot_conditionLaw hs law mem ht
  | heldClaimed mem state => exact holdClaimed_conditionLaw hs law mem state ht
  | unheld mem => exact unholdLot_conditionLaw hs law mem ht
  | voided mem state => exact voidDose_conditionLaw hs law mem state
  | rejected mem state => exact rejectLot_conditionLaw hs law mem state ht
  | @cleared b front behind lane state =>
    obtain ⟨l, found, -⟩ := hs.atFront_of_mem_fronts (mem_fronts.2 ⟨b, by rw [lane]; rfl⟩)
    obtain ⟨mem, rfl⟩ := mem_of_lot? s found
    rw [frontRejected_eq lane found, decide_eq_true_eq] at state
    exact handOver_conditionLaw hs law s.releaseLog s.claims ⟨mem, lane⟩ (by simp [state]) ht
  | extended minutes mem state => exact extendLot_conditionLaw hs law mem state minutes ht
  | forgotten _ latched => exact setPendingKinds_conditionLaw hs law latched ht
  | masked => exact (Reports.refl _).conditionLaw {} hs ht law

/-! ### The time base -/

theorem expireWindow_conditionLaw (n : Line) : ConditionLaw (expireWindow n s) := by
  fun_cases expireWindow n s
  case case1 line =>
    obtain ⟨-, l, mem, rfl, state, rfl⟩ := hs.lines.exists_of_dosed line
    exact voidDose_conditionLaw hs law mem state
  all_goals exact law

theorem runWindow_conditionLaw (n : Line) : ConditionLaw (runWindow n s) := by
  have ht := (runWindow_ages n s hs).1
  revert ht
  fun_cases runWindow n s <;> intro ht
  case case1 => exact expireWindow_conditionLaw hs law n
  case case2 => exact ((Reports.refl (setLine n _ s)).raiseFor _ rfl).conditionLaw {} hs ht law
  case case3 => exact (Reports.refl (setLine n _ s)).conditionLaw {} hs ht law
  all_goals exact law

theorem expireClaims_conditionLaw : ConditionLaw (expireClaims s) := by
  have ht := (expireClaims_ages s hs).1
  obtain ⟨phase, halt, time, stale⟩ := (foldr_expireClaim_change s (s.claims.filter Claim.ends)).conditions
  refine ((Reports.refl ((s.claims.filter Claim.ends).foldr expireClaim s)).report rfl).conditionLaw ?_ hs ht law
  refine
    { phase := phase, pending := fun st k is => ?_, halt := .inr halt, time := .inr time, stale := .inr stale
      queue := .inl List.mem_cons_self, alerts := fun k _ => ?_ }
  · have other : k ≠ .claimExpired := by
      rintro rfl
      exact absurd is nofun
    simp [foldr_expireClaim_has, other, -Fin.getElem_fin]
  · refine alerted_of_map ((reportQueue_lots _).symm.trans (expireClaims_lots hs.claims)) fun l _ => ?_
    split
    · next lapsed => rw [Lot.alert_of_quiet (l := l) (by rw [lapsed.1]; rfl), Lot.alert_of_quiet rfl]
    · rfl

theorem runClaims_conditionLaw : ConditionLaw (runClaims s) := by
  have ht := (runClaims_ages s hs).1
  by_cases running : s.claims.filter Claim.ends = []
  · rw [runClaims_of_running running] at ht ⊢
    exact (Reports.refl _).conditionLaw {} hs ht law
  · rw [runClaims_of_due running] at ht ⊢
    exact (Reports.refl _).conditionLaw {} (expireClaims_ages s hs).1 ht (expireClaims_conditionLaw hs law)

/-- R85, R103, R124: the interval event reports the conditions that its decisions change, and no lot is rejected or moved by it. -/
theorem takeInterval_conditionLaw : ConditionLaw (takeInterval s) := by
  have hall := hallParts_iff.1 hs
  have credited := intervalCreditsLots.1 s hall
  have handed := intervalHandsOver s hall
  have ht := (takeInterval_ages s hs).1
  have rejected : (takeInterval s).alerted .rejectedAtFront = s.alerted .rejectedAtFront :=
    alerted_of_map credited.lots fun l mem => by
      rw [Lot.intervalLater_eq (hs.lots l mem)]
      exact (l.creditedIn s).alert_decided.trans (by rw [Lot.alert_congr (l.creditedIn_state s) (l.creditedIn_place s)])
  intro serving st k is receiver
  have serving_before : s.phase = .inService := (congrArg State.phase credited.others).symm.trans serving
  rw [handed.kinds, if_pos receiver]
  cases k with
  | overduePresent | bayStale | queueReady => rfl
  | haltActive => exact (law serving_before st _ is receiver).trans (congrArg State.haltRegistered credited.others).symm
  | timeUnset => exact (law serving_before st _ is receiver).trans (congrArg (fun u : State => !u.timeValid) credited.others).symm
  | rejectedAtFront =>
    refine (law serving_before st _ is receiver).trans (hs.anyRejectedAtFront_eq.trans ?_)
    exact rejected.symm.trans ht.anyRejectedAtFront_eq.symm
  | restarted | pourLate | doseVoid | claimExpired | claimRevoked | probeFault | hotHold => exact absurd is nofun

end

end

/-- The laws of the hall and of the conditions together, as the steps keep them. -/
structure InStep (s : State) : Prop where
  hall : HallParts s
  conditions : ConditionLaw s

theorem InStep.runWindow {s : State} (h : InStep s) (n : Line) : InStep (runWindow n s) :=
  ⟨(runWindow_ages n s h.hall).1, runWindow_conditionLaw h.hall h.conditions n⟩

theorem InStep.takeSecond {s : State} (h : InStep s) : InStep (takeSecond s) := by
  have counted : InStep (countSecond s) := ⟨SameHall.hallParts {} h.hall, h.conditions⟩
  have windows : InStep (runWindows (countSecond s)) := (((counted.runWindow 0).runWindow 1).runWindow 2).runWindow 3
  have run : InStep (runClaims (runWindows (countSecond s))) :=
    ⟨(runClaims_ages _ windows.hall).1, runClaims_conditionLaw windows.hall windows.conditions⟩
  fun_cases Machine.takeSecond s
  case case1 => exact ⟨(takeInterval_ages _ run.hall).1, takeInterval_conditionLaw run.hall run.conditions⟩
  case case2 => exact run

/-! ### Starts -/

/-- Out of service the law asks nothing. -/
theorem conditionLaw_of_stopped {s : State} (stopped : s.phase ≠ .inService) : ConditionLaw s := fun serving => absurd serving stopped

/-- Step 5 of a start reports every condition. -/
theorem completeStart_conditionLaw (s : State) : ConditionLaw (completeStart s) := fun _ st k is receiver => by
  rw [completeStart_has s receiver, if_pos is]

/-! ### Every step -/

theorem inStep_stepKept : StepKept InStep where
  link {s t} change h := ⟨hall_stepKept.link change h.hall, by rw [change]; exact h.conditions⟩
  taken c st args s h :=
    have hall := hall_stepKept.taken c st args h.hall
    ⟨hall, (deliver_acts args s c st).conditionLaw h.hall h.conditions hall⟩
  second _ h := h.takeSecond
  window n _ serving h := ⟨hall_stepKept.window n serving h.hall, expireWindow_conditionLaw h.hall h.conditions n⟩
  claims serving h := ⟨hall_stepKept.claims serving h.hall, expireClaims_conditionLaw h.hall h.conditions⟩
  interval serving h := ⟨hall_stepKept.interval serving h.hall, takeInterval_conditionLaw h.hall h.conditions⟩
  haltInput raw timing h := ⟨hall_stepKept.haltInput raw timing h.hall, h.conditions⟩
  halt level s serving h :=
    have hall := hall_stepKept.halt level serving h.hall
    ⟨hall, ((Reports.refl (registerHalt level s)).report rfl).conditionLaw { halt := .inl List.mem_cons_self } h.hall hall h.conditions⟩
  begins cause _ h := ⟨hall_stepKept.begins cause h.hall, conditionLaw_of_stopped nofun⟩
  completes {s} starting h := ⟨hall_stepKept.completes starting h.hall, completeStart_conditionLaw s⟩
  fails starting h := ⟨hall_stepKept.fails starting h.hall, conditionLaw_of_stopped nofun⟩
  resets h := ⟨hall_stepKept.resets h.hall, conditionLaw_of_stopped nofun⟩
  powerLoss h := ⟨hall_stepKept.powerLoss h.hall, conditionLaw_of_stopped nofun⟩
  latch unpowered h := ⟨hall_stepKept.latch unpowered h.hall, h.conditions⟩

/-- Settles O56: every taking and event reports each condition that it changes, and a start reports them all. -/
theorem stepsKeepConditions : Obligations.StepsKeepConditions := by
  intro s t hall law next
  exact (inStep_stepKept.step next ⟨hallParts_iff.2 hall, law⟩).conditions

end Sys2Proof.Machine
end

section
/-! ## Start-up, retention and restart (R141, R155, R163 to R168) -/

namespace Sys2Proof.Machine

open Sys2Proof

/-! ### The beginning of a start -/

theorem exec_powerOn_of_unpowered {s : State} (unpowered : s.phase = .unpowered) (straps : Straps) :
    exec (.powerOn straps) s = .next (beginStart s.latchCause { s with strapPins := straps }) :=
  congrArg Host.Outcome.next (if_pos unpowered)

theorem exec_resetRelease_of_held {s : State} (held : s.phase = .heldReset) (straps : Straps) :
    exec (.resetRelease straps) s = .next (beginStart s.latchCause { s with strapPins := straps }) :=
  congrArg Host.Outcome.next (if_pos held)

theorem exec_resetAssertionRegistered_of_powered {s : State} (powered : s.phase ≠ .unpowered) :
    exec .resetAssertionRegistered s = .next (stopPart .heldReset s) :=
  congrArg Host.Outcome.next (if_neg powered)

theorem exec_mainPowerLoss_of_powered {s : State} (powered : s.phase ≠ .unpowered) :
    exec .mainPowerLoss s = .next (loseUnretained (stopPart .unpowered s)) :=
  congrArg Host.Outcome.next (if_neg powered)

/-- R165: the monitor of VBAK acts exactly while main power is absent. -/
theorem exec_vbakBelowRetention (s : State) :
    exec .vbakBelowRetention s = .next (if s.phase = .unpowered then { s with retentionLost := true } else s) := by
  simp only [exec, execVbakBelowRetention]
  split_ifs <;> rfl

/-- R165: what is lost with main power leaves each lane its retained fields. -/
theorem loseUnretained_lane (s : State) (b : Bay) : (loseUnretained s).lanes[b] = s.lanes[b].withoutReading := by
  simp [loseUnretained]

/-- Settles O45: each row is one application of `beginStart`, `stopPart` or `loseUnretained`, which are updates of the state. -/
theorem startsBegin : Obligations.StartsBegin := by
  refine ⟨fun _ _ => rfl, fun straps s unpowered => exec_powerOn_of_unpowered unpowered straps,
    fun straps s held => exec_resetRelease_of_held held straps, fun s powered => exec_resetAssertionRegistered_of_powered powered,
    fun s powered => ?_, fun s unpowered => ?_, fun s powered => ?_⟩
  · have lanes (b : Bay) : (loseUnretained (stopPart .unpowered s)).lanes[b] = s.lanes[b].withoutReading := loseUnretained_lane _ b
    exact ⟨_, exec_mainPowerLoss_of_powered powered, rfl, rfl, rfl, rfl, rfl, rfl, fun b => by rw [lanes b]; exact ⟨rfl, rfl, rfl⟩,
      rfl, rfl, rfl, rfl, rfl, rfl, rfl, rfl, rfl, rfl, rfl, rfl⟩
  · rw [exec_vbakBelowRetention, if_pos unpowered]
  · rw [exec_vbakBelowRetention, if_neg powered]

/-! ### RSTW and RSTC (R168) -/

section
variable {s : State} (h : TakesAtOnce supervisorStation s) {args : List Byte} (fits : argsFit args = true)
include h fits

theorem exec_rstw : exec (.rstw 6 args) s = .next (answered 6 0x4E .ok .none s) :=
  congrArg Host.Outcome.next (supervisor_answered (c := .rstw) (t := takeRestart s) h fits rfl rfl)

theorem exec_rstc : exec (.rstc 6 args) s = .next (answered 6 0x4F .ok .none s) :=
  congrArg Host.Outcome.next (supervisor_answered (c := .rstc) (t := takeRestart s) h fits rfl rfl)

end

section
variable {a : Answer} (ok : a.status = .ok)
include ok

theorem restartAfter_rstw (code : a.code = 0x4E) : restartAfter supervisorStation (some a) = some .supervisorWarm := by
  simp only [restartAfter, ok, and_self, if_true, if_pos (show a.code = CommandCode.rstw.byte from code)]

theorem restartAfter_rstc (code : a.code = 0x4F) : restartAfter supervisorStation (some a) = some .supervisorCold := by
  have notWarm : a.code ≠ CommandCode.rstw.byte := by rw [code]; decide
  simp only [restartAfter, ok, and_self, if_true, if_neg notWarm, if_pos (show a.code = CommandCode.rstc.byte from code)]

end

/-- R168: the completion of an answer that a start follows begins that start, with the straps of the completion (R141); the beginning
empties the slots and the transmitter however the attempt has left them. -/
theorem exec_attemptCompletion_of_restart {s : State} {att : Attempt} {st : Station} {cause : StartCause} (on : s.link = .onBus)
    (busy : s.transmitter = some att) (carries : att.slot = answerSlot st) (restarts : restartAfter st s.answers[st] = some cause)
    (fall : ErrorFall) (straps : Straps) : exec (.attemptCompletion fall straps) s = .next (beginStart cause { s with
      strapPins := straps
      transmitErrors := s.transmitErrors - fall.transmit
      receiveErrors := s.receiveErrors - fall.receive }) := by
  have ended : restartAfter st (endAttempt (answerSlot st) fall straps s).answers[st] = some cause := restarts
  show execAttemptCompletion fall straps s = _
  rw [execAttemptCompletion, if_pos on, completeAttempt_of_answer busy carries, answerSent, ended]
  rfl

/-- Settles O46: the taking answers alone, and the completed answer's code decides the cause of the start. -/
theorem restartFollowsItsAnswer : Obligations.RestartFollowsItsAnswer := by
  refine ⟨fun args s h fits => ⟨exec_rstw h fits, exec_rstc h fits⟩, fun s att a fall straps on busy carries held ok =>
    ⟨fun code => ?_, fun code => ?_⟩⟩
  · exact exec_attemptCompletion_of_restart on busy carries (held ▸ restartAfter_rstw ok code) fall straps
  · exact exec_attemptCompletion_of_restart on busy carries (held ▸ restartAfter_rstc ok code) fall straps

/-! ### Out of service (R66, R90, R154, R166, R167) -/

section
variable {s : State} (stopped : s.phase ≠ .inService)
include stopped

theorem exec_secondEvent_of_outOfService : exec .secondEvent s = .next s := congrArg Host.Outcome.next (if_neg stopped)

theorem exec_intervalEvent_of_outOfService : exec .intervalEvent s = .next s := by simp [exec, execIntervalEvent, stopped]

theorem exec_pourWindowExpiry_of_outOfService (n : Line) : exec (.pourWindowExpiry n) s = .next s := by
  simp [exec, execPourWindowExpiry, stopped]

theorem exec_claimExpiry_of_outOfService : exec .claimExpiry s = .next s := by simp [exec, execClaimExpiry, stopped]

theorem exec_registration_of_outOfService (level : Bool) : exec (registration level) s = .next s := by
  rw [exec_registration, if_neg fun registers => stopped (State.registers_iff.1 registers).1]

end

section
variable {s : State} (off : s.link ≠ .onBus)
include off

theorem exec_commandFrameArrival_of_notOnBus (st : Station) (data : List Byte) : exec (.commandFrameArrival st data) s = .next s :=
  congrArg Host.Outcome.next (arrive_of_notOnBus off)

/-- R142, R154: whatever the frame is to the part, it is not seen. -/
theorem exec_ignoredFrame_of_notOnBus (f : RxFrame) : exec (.ignoredFrame f) s = .next s := by
  cases made : classify (identBase s.straps) f with
  | command st => rw [exec_ignoredFrame_of_command made, exec_commandFrameArrival_of_notOnBus off]
  | remoteRequest k => rw [exec_ignoredFrame_of_request made, exec_remoteRequest_of_notOnBus off]
  | ignored => exact exec_ignoredFrame_of_ignored made

theorem exec_attemptStart_of_notOnBus : exec .attemptStart s = .next s := by simp [exec, execAttemptStart, off]

end

/-- R155: out of service the link is off-bus. -/
theorem LinkLaw.notOnBus_of_outOfService {s : State} (h : LinkLaw s) (stopped : s.phase ≠ .inService) : s.link ≠ .onBus := by
  simp [h.inService.2 stopped]

theorem exec_selfTest_of_notStarting {s : State} (idle : s.phase ≠ .starting) (passed : Bool) : exec (.selfTest passed) s = .next s :=
  congrArg Host.Outcome.next (if_neg idle)

/-- Settles O47: the four phases are those out of service, where no event of the time base or the filter acts, and the link is
off-bus. -/
theorem faultIsSilent : Obligations.FaultIsSilent := by
  refine ⟨fun s starting => congrArg Host.Outcome.next (if_pos starting), fun s phases => ?_,
    fun s passed idle => exec_selfTest_of_notStarting idle passed⟩
  have stopped : s.phase ≠ .inService := by
    obtain fault | starting | held | unpowered := phases <;> simp [*]
  refine ⟨exec_secondEvent_of_outOfService stopped, exec_intervalEvent_of_outOfService stopped,
    exec_pourWindowExpiry_of_outOfService stopped, exec_claimExpiry_of_outOfService stopped,
    exec_registration_of_outOfService stopped true, exec_registration_of_outOfService stopped false, fun law => ?_⟩
  have off := law.notOnBus_of_outOfService stopped
  exact ⟨exec_commandFrameArrival_of_notOnBus off, exec_remoteRequest_of_notOnBus off, exec_ignoredFrame_of_notOnBus off,
    exec_attemptStart_of_notOnBus off⟩

/-! ### The state after reset (R163, R169) -/

/-- A hall with no lots, its lines idle and its lists empty, meets the laws that its parameters and recipes meet. -/
theorem hallParts_of_empty {s : State} (lots : s.lots = []) (lines : ∀ n : Line, s.lines[n] = .idle)
    (lanes : ∀ b : Bay, s.lanes[b].lots = []) (queue : s.queue = []) (claims : s.claims = []) (parameters : ParameterLaw s)
    (recipes : RecipeLaw s) : HallParts s where
  serials := ⟨by simp [lots], by simp [lots], by simp [lots], parameters.nextSerial⟩
  lots := by simp [lots]
  lines := ⟨fun n => by rw [lines n]; trivial, by simp [lots]⟩
  lanes :=
    { room := fun b => by simp only [lanes b, List.length_nil, Nat.zero_le]
      distinct := fun b => by simp only [lanes b, List.nodup_nil]
      standing := fun b i serial listed => by simp only [lanes b, List.getElem?_nil, reduceCtorEq] at listed
      listed := by simp [lots] }
  queue := by constructor <;> simp [lots, queue]
  claims := ⟨by constructor <;> simp [claims], by simp [lots], by simp [claims], by simp [lots]⟩
  parameters := parameters
  recipes := recipes

/-- The state after reset is the completion of a cold start (log entry 1). -/
theorem completeStart_cold_eq_reset : completeStart (beginStart .cold State.reset) = State.reset := by decide

/-- The cold-start parameters and the counts at zero lie in their ranges, and no lane has a reading (R22, R50, R87). -/
theorem reset_ranged_lawful : State.reset.ranged.Lawful where
  recipes k := by
    have cold : State.reset.ranged.recipes[k] = Recipe.coldStart := by simp [State.ranged, State.reset]
    rw [cold]
    exact ⟨admits_coldStart, nofun⟩
  limits n := by
    have cold : State.reset.ranged.limits[n] = LineLimits.coldStart := by simp [State.ranged, State.reset]
    rw [cold]
    constructor <;> decide
  capacities b := by simp [State.ranged, State.reset, Lane.coldStart, Config.coldCapacity]
  readings b := by simp [State.ranged, State.reset, Lane.coldStart]
  staleLimit := by decide
  claimTimeout := by decide
  nextSerial := by decide
  secondInMinute := by decide
  plantMinute := by decide

theorem reset_hallParts : HallParts State.reset :=
  have ⟨recipes, parameters, _, _⟩ := ranged_lawful_iff.1 reset_ranged_lawful
  hallParts_of_empty rfl (by simp [State.reset]) (by simp [State.reset, Lane.coldStart]) rfl rfl parameters recipes

/-- Settles O60: the hall is empty with the cold-start parameters, and the rest is what a completed cold start leaves. -/
theorem resetMeetsTheLaws : Obligations.ResetMeetsTheLaws := by
  obtain ⟨recipes, parameters, time, readings⟩ := ranged_lawful_iff.1 reset_ranged_lawful
  have begun : LinkAndPhase (beginStart .cold State.reset) := ⟨linkLaw_beginStart _ _, phaseLaw_beginStart nofun⟩
  have attention := heard_lawful_iff.1 (completeStart_heard (beginStart .cold State.reset))
  have permits := permits_stepKept.completes (s := beginStart .cold State.reset) rfl (permitLaw_of_off rfl rfl)
  have conditions := completeStart_conditionLaw (beginStart .cold State.reset)
  obtain ⟨link, phase⟩ := begun.completeStart rfl
  rw [completeStart_cold_eq_reset] at attention permits conditions link phase
  exact ⟨permits, recipes, parameters, time, readings, link, phase, attention, hallParts_iff.1 reset_hallParts, conditions, logLaw_of_nil rfl⟩

end Sys2Proof.Machine
end

section
/-! ## The counts of the hall (R170, R171)

Each count is that of a list of distinct serials: the live lots are those of the lanes and those of the lines, and the serials of
the queue and the claims are those of the offered fronts. -/

namespace Sys2Proof.Machine

open Sys2Proof

/-- The serials of the DOSED and VOID lots, by ascending line. -/
def State.lotsOnLines (s : State) : List Nat := s.lines.toList.filterMap LineRecord.serial

/-- The lot is CURED and unheld, or CLAIMED. -/
def Lot.offered (l : Lot) : Bool := l.ready || l.state = .claimed

/-- The serials of the offered lots that stand at the front of their lanes, by ascending bay. -/
def State.offeredFronts (s : State) : List Nat :=
  s.lotsInLaneOrder.filter fun serial => (s.lot? serial).any fun l => l.offered && l.atFront

theorem Lot.offered_iff {l : Lot} : l.offered = true ↔ l.ready = true ∨ l.state = .claimed := by simp [Lot.offered]

/-- An offered lot stands in a lane. -/
theorem Lot.inLane_of_offered {l : Lot} (offered : l.offered = true) : l.state.inLane = true := by
  rcases Lot.offered_iff.1 offered with ready | claimed
  · rw [(Lot.ready_iff.1 ready).1]; rfl
  · rw [claimed]; rfl

/-! ### The lengths of the lists of serials -/

theorem length_lotsInLaneOrder (s : State) : s.lotsInLaneOrder.length = (s.lanes.toList.map (·.lots.length)).sum :=
  List.length_flatMap

theorem LineRecord.serial_isSome (r : LineRecord) : r.serial.isSome = decide (r ≠ .idle) := by cases r <;> rfl

theorem length_lotsOnLines (s : State) : s.lotsOnLines.length = (s.lines.toList.filter (· ≠ .idle)).length := by
  rw [State.lotsOnLines, List.length_filterMap_eq_countP, ← List.countP_eq_length_filter]
  exact List.countP_congr fun r _ => by rw [r.serial_isSome]

theorem State.offersFront_eq (s : State) (lane : Lane) :
    s.offersFront lane = lane.lots.head?.any fun serial => (s.lot? serial).any Lot.offered := by
  unfold State.offersFront
  cases lane.lots.head? <;> rfl

theorem HallParts.length_offeredFronts {s : State} (h : HallParts s) :
    s.offeredFronts.length = (s.lanes.toList.filter s.offersFront).length := by
  have fronts := h.filter_lotsInLaneOrder (fun _ => true) Lot.offered
  simp only [Bool.true_and] at fronts
  rw [State.offeredFronts, fronts, State.fronts, ← List.countP_eq_length_filter, ← List.countP_eq_length_filter,
    List.countP_filterMap]
  refine List.countP_congr fun lane _ => ?_
  rw [s.offersFront_eq]
  cases lane.lots.head? <;> rfl

/-! ### The lots on the lines (R54) -/

theorem mem_lotsOnLines_iff {s : State} {serial : Nat} : serial ∈ s.lotsOnLines ↔ ∃ n : Line, s.lines[n].serial = some serial := by
  simp only [State.lotsOnLines, List.mem_filterMap, Vector.mem_toList_iff, Vector.mem_iff_getElem]
  exact ⟨fun ⟨_, ⟨i, hi, same⟩, named⟩ => ⟨⟨i, hi⟩, (congrArg _ same).trans named⟩,
    fun ⟨n, named⟩ => ⟨_, ⟨n, n.isLt, rfl⟩, named⟩⟩

/-- The lot that a line names is DOSED or VOID, and the line is its own. -/
theorem LineLaw.exists_of_serial {s : State} (h : LineLaw s) {n : Line} {serial : Nat} (named : s.lines[n].serial = some serial) :
    ∃ l ∈ s.lots, l.serial = serial ∧ l.state.inLane = false ∧ l.line = n := by
  cases record : s.lines[n] with
  | idle => exact absurd (record ▸ named) nofun
  | dosed other remaining warning =>
    obtain rfl : other = serial := Option.some.inj ((congrArg LineRecord.serial record).symm.trans named)
    obtain ⟨-, l, mem, same, state, line⟩ := h.exists_of_dosed record
    exact ⟨l, mem, same, by rw [state]; rfl, line⟩
  | void other =>
    obtain rfl : other = serial := Option.some.inj ((congrArg LineRecord.serial record).symm.trans named)
    obtain ⟨l, mem, same, state, line⟩ := h.exists_of_void record
    exact ⟨l, mem, same, by rw [state]; rfl, line⟩

section
variable {s : State} (h : HallParts s)
include h

theorem HallParts.mem_lotsOnLines {l : Lot} (mem : l ∈ s.lots) : l.serial ∈ s.lotsOnLines ↔ l.state.inLane = false := by
  rw [mem_lotsOnLines_iff]
  constructor
  · rintro ⟨n, named⟩
    obtain ⟨k, hk, same, state, -⟩ := h.lines.exists_of_serial named
    exact h.serials.eq_of_serial_eq hk mem same ▸ state
  · exact fun state => ⟨l.line, h.lines.serial_of_line mem state⟩

/-- No two lines name one lot. -/
theorem HallParts.lotsOnLines_nodup : s.lotsOnLines.Nodup := by
  refine List.pairwise_filterMap.2 (List.pairwise_iff_getElem.2 fun i j hi hj less => ?_)
  rw [Vector.length_toList] at hi hj
  rintro serial first _ second rfl
  obtain ⟨k, hk, k_serial, -, line_i⟩ := h.lines.exists_of_serial (n := ⟨i, hi⟩) (by simpa using first)
  obtain ⟨l, hl, l_serial, -, line_j⟩ := h.lines.exists_of_serial (n := ⟨j, hj⟩) (by simpa using second)
  obtain rfl := h.serials.eq_of_serial_eq hk hl (k_serial.trans l_serial.symm)
  exact absurd (congrArg Fin.val (line_i.symm.trans line_j)) less.ne

/-! ### The live lots -/

theorem HallParts.exists_of_mem_lotsInLaneOrder {serial : Nat} (listed : serial ∈ s.lotsInLaneOrder) :
    ∃ l ∈ s.lots, l.serial = serial := by
  obtain ⟨b, inLane⟩ := mem_lotsInLaneOrder_iff.1 listed
  obtain ⟨i, at_i⟩ := List.mem_iff_getElem?.1 inLane
  obtain ⟨l, mem, same, -⟩ := h.lanes.standing b i serial at_i
  exact ⟨l, mem, same⟩

theorem HallParts.exists_of_mem_lotsOnLines {serial : Nat} (named : serial ∈ s.lotsOnLines) : ∃ l ∈ s.lots, l.serial = serial := by
  obtain ⟨n, line⟩ := mem_lotsOnLines_iff.1 named
  obtain ⟨l, mem, same, -⟩ := h.lines.exists_of_serial line
  exact ⟨l, mem, same⟩

/-- A lot stands in a lane or on its line, and not in both. -/
theorem HallParts.lanes_lines_disjoint : List.Disjoint s.lotsInLaneOrder s.lotsOnLines := by
  intro serial standing named
  obtain ⟨l, mem, rfl⟩ := h.exists_of_mem_lotsInLaneOrder standing
  have inLane := (h.mem_lotsInLaneOrder mem).1 standing
  rw [(h.mem_lotsOnLines mem).1 named] at inLane
  exact absurd inLane nofun

theorem HallParts.serials_perm : (s.lots.map (·.serial)).Perm (s.lotsInLaneOrder ++ s.lotsOnLines) := by
  refine (List.perm_ext_iff_of_nodup h.serials.distinct
    (h.lotsInLaneOrder_nodup.append h.lotsOnLines_nodup h.lanes_lines_disjoint)).2 fun serial => ?_
  rw [List.mem_map, List.mem_append]
  constructor
  · rintro ⟨l, mem, rfl⟩
    rw [h.mem_lotsInLaneOrder mem, h.mem_lotsOnLines mem]
    exact Bool.eq_false_or_eq_true _
  · rintro (standing | named)
    · exact h.exists_of_mem_lotsInLaneOrder standing
    · exact h.exists_of_mem_lotsOnLines named

theorem HallParts.liveLotsAddUp : liveLotsAddUp s := by
  have lengths := h.serials_perm.length_eq
  rwa [List.length_map, List.length_append, length_lotsInLaneOrder, length_lotsOnLines] at lengths

/-! ### The queue and the claims -/

theorem HallParts.mem_offeredFronts {l : Lot} (mem : l ∈ s.lots) :
    l.serial ∈ s.offeredFronts ↔ l.offered = true ∧ l.atFront = true := by
  rw [State.offeredFronts, List.mem_filter, h.mem_lotsInLaneOrder mem, h.serials.lot?_serial mem, Option.any_some, Bool.and_eq_true]
  exact and_iff_right_of_imp fun offered => Lot.inLane_of_offered offered.1

/-- A queued lot is CURED, and so no claim names it. -/
theorem HallParts.queue_claims_disjoint : List.Disjoint s.queue (s.claims.map (·.serial)) := by
  intro serial queued claimed
  obtain ⟨l, mem, rfl⟩ := h.claims.live serial claimed
  have cured := (Lot.ready_iff.1 ((h.mem_queue_iff mem).1 queued).1).1
  exact absurd (cured.symm.trans ((h.claims.exact l mem).1 claimed)) nofun

theorem HallParts.mem_queue_or_claims_iff {l : Lot} (mem : l ∈ s.lots) :
    l.serial ∈ s.queue ++ s.claims.map (·.serial) ↔ l.serial ∈ s.offeredFronts := by
  have front := h.claims.front l mem
  rw [List.mem_append, h.mem_queue_iff mem, h.claims.exact l mem, h.mem_offeredFronts mem, Lot.offered_iff]
  tauto

theorem HallParts.queue_claims_perm : (s.queue ++ s.claims.map (·.serial)).Perm s.offeredFronts := by
  refine (List.perm_ext_iff_of_nodup (h.queue.distinct.append h.claims.list.serials h.queue_claims_disjoint)
    (h.lotsInLaneOrder_nodup.filter _)).2 fun serial => ⟨fun named => ?_, fun offered => ?_⟩
  · obtain ⟨l, mem, rfl⟩ : ∃ l ∈ s.lots, l.serial = serial := by
      rcases List.mem_append.1 named with queued | claimed
      · obtain ⟨l, mem, same, -⟩ := (h.queue.exact serial).1 queued
        exact ⟨l, mem, same⟩
      · exact h.claims.live serial claimed
    exact (h.mem_queue_or_claims_iff mem).1 named
  · obtain ⟨l, mem, rfl⟩ := h.exists_of_mem_lotsInLaneOrder (List.mem_of_mem_filter offered)
    exact (h.mem_queue_or_claims_iff mem).2 offered

theorem HallParts.queueAndClaimsAddUp : queueAndClaimsAddUp s := by
  have lengths := h.queue_claims_perm.length_eq
  rwa [List.length_append, List.length_map, h.length_offeredFronts] at lengths

end

/-- Settles O59: both counts compare two lists of distinct serials that name the same lots. -/
theorem countsAddUp : Obligations.CountsAddUp := by
  intro s law
  have h := hallParts_iff.2 law
  exact ⟨h.liveLotsAddUp, h.queueAndClaimsAddUp⟩

end Sys2Proof.Machine
end
